-- ==== Sys2Proof/Word.lean ====
section
/-! DEFINITION. The bit-vector types of the spec (spec/00_scope.md R6, R7, R12) and the type of strings. -/

namespace Sys2Proof

/-- The instruction Word: 32 bits, bit 31 most significant (R6 WORD_WIDTH, R9, R12). -/
abbrev Word := BitVec 32

/-- The opcode, bits 31–26 (R6 OPCODE_WIDTH, R37). -/
abbrev Opcode := BitVec 6

/-- A register code 0–31 (R6 REG_CODE_WIDTH, R21). It names a register; the block holds none (R22). -/
abbrev RegCode := BitVec 5

/-- The shift amount, bits 10–6 (R6 SHAMT_WIDTH). -/
abbrev ShiftAmount := BitVec 5

/-- The function code, bits 5–0 (R6 FUNCT_WIDTH). -/
abbrev FunctionCode := BitVec 6

/-- The immediate, bits 15–0 (R6 IMM_WIDTH). -/
abbrev Immediate := BitVec 16

/-- The word-granularity jump address, bits 25–0 (R6 ADDR_WIDTH). -/
abbrev Address := BitVec 26

/-- The byte jump target, 28 bits (R7 JTARGET_WIDTH). -/
abbrev JumpTarget := BitVec 28

/-- A string: a finite sequence of characters, each a Unicode scalar value (R12). -/
abbrev Str := List Char

end Sys2Proof
end

