-- ==== Sys2Proof/Machine/Record.lean ====
section
/-! DEFINITION. The format tag and the decoded record (spec/10_state.md R19; spec/40_classify.md R52). -/

namespace Sys2Proof

/-- FormatTag = {R, I, J} (R12, R52). Three values: the reserved `fmt` = 11 cannot be held (R50). -/
inductive FormatTag where
  | R
  | I
  | J
  deriving DecidableEq, Repr

/-- The decoded instruction, "a closed sum type (tagged union) with per-variant fields" (R19). The R variant stores no
opcode. -/
inductive Record where
  | r (rs rt rd : RegCode) (shiftAmount : ShiftAmount) (functionCode : FunctionCode)
  | i (opcode : Opcode) (rs rt : RegCode) (immediate : Immediate)
  | j (opcode : Opcode) (address : Address)
  deriving DecidableEq, Repr

end Sys2Proof
end

