-- ==== Sys2Proof/Machine/Errors.lean ====
section
/-! DEFINITION. The host-side errors (spec/60_exceptions.md R90, R91). They are values a host operation returns
(R92): the block raises none (R89), and none of them is a machine fault or a trap (R94). -/

namespace Sys2Proof.Machine

/-- `MalformedInputError`, raised by PARSE_BITS (R90; spec/42_decode.md R71, R72). -/
inductive MalformedInputError where
  | wrongLength (length : Nat)      -- the length found
  | nonBinaryChar (index : Nat)     -- the index of the first such character
  deriving DecidableEq, Repr

/-- The role in which a register is looked up (R91, code 5). -/
inductive RegRole where
  | rs
  | rt
  | rd
  deriving DecidableEq, Repr

/-- `NameNotFound`: which lookup failed, with its key (R79, R91). -/
inductive NameNotFound where
  | opcode (key : Opcode)
  | functionCode (key : FunctionCode)
  | register (role : RegRole) (code : RegCode)
  deriving DecidableEq, Repr

/-- The two backing tables (R91; spec/70_reset_and_hazards.md R102). -/
inductive TableId where
  | registerTable
  | instructionTable
  deriving DecidableEq, Repr

/-- `ConfigFault = TableMissing | ColumnMissing (column name)` (spec/00_scope.md R8). -/
inductive ConfigFault where
  | tableMissing
  | columnMissing (column : Str)
  deriving DecidableEq, Repr

/-- `ConfigurationError`: the table, and what is wrong with it (R80, R91). -/
structure ConfigurationError where
  table : TableId
  fault : ConfigFault
  deriving DecidableEq, Repr

/-- `RenderError`: what RESOLVE and RENDER raise (spec/45_host_render.md R79, R80). -/
inductive RenderError where
  | nameNotFound (what : NameNotFound)
  | configuration (what : ConfigurationError)
  deriving DecidableEq, Repr

/-- Every error of the spec (R90). -/
inductive HostError where
  | malformedInput (what : MalformedInputError)
  | render (what : RenderError)
  deriving DecidableEq, Repr

/-- The numeric code of an error (R91; the spec's own numbers, D11). -/
def HostError.code : HostError → Nat
  | .malformedInput (.wrongLength _) => 1
  | .malformedInput (.nonBinaryChar _) => 2
  | .render (.nameNotFound (.opcode _)) => 3
  | .render (.nameNotFound (.functionCode _)) => 4
  | .render (.nameNotFound (.register _ _)) => 5
  | .render (.configuration ⟨_, .tableMissing⟩) => 6
  | .render (.configuration ⟨_, .columnMissing _⟩) => 7

end Sys2Proof.Machine
end

