-- ==== Sys2Proof/Config.lean ====
section
/-! DEFINITION. What the spec leaves open and no run can change: constants WITHOUT A BODY, so no proof can see their
value. The open parameters that the host supplies as data (the three tables, DETAIL_NAME_PREFIX) stand in State. The
widths of spec/00_scope.md R6 and R7 are the types of Word.lean: none is a parameter (R6). -/

namespace Sys2Proof

/-- The two byte orders a host could build a Word from memory in. -/
inductive ByteOrder where
  | littleEndian
  | bigEndian
  deriving DecidableEq, Repr, Inhabited

/-- OPEN parameter HostByteOrder (92_eei_decisions.md D9, U11): "not used by any rule of this spec" (log 15). -/
opaque Config.hostByteOrder : ByteOrder

/-- OPEN parameter T_DECODE, the propagation delay (D18, U10), used by no rule (spec/70_reset_and_hazards.md R106). -/
opaque Config.decodeDelay : Nat

/-- FREE VALUE. Which fault RENDER reports when both tables its template needs are unavailable: true for the
instruction table's. R87 step 1 checks the tables before any lookup and gives no order among them (log 8). -/
opaque Config.instructionTableReportedFirst :
    (instructionFault registerFault : Sys2Proof.Machine.ConfigFault) → Bool

end Sys2Proof
end

