-- ==== Sys2Proof/Machine/Operands.lean ====
section
/-! DEFINITION. The operand fields of a Word and the values derived from them (spec/30_encoding.md R36, R44–R46;
spec/41_extract.md R60–R62). `w.extractLsb' lo n` is the spec's slice `w[lo+n-1:lo]` (R10). -/

namespace Sys2Proof.Machine

/-- `w[31:26]` (R37). -/
def opcodeOf (w : Word) : Opcode := w.extractLsb' 26 6

/-- `w[25:21]` (R36). -/
def rsOf (w : Word) : RegCode := w.extractLsb' 21 5

/-- `w[20:16]` (R36). -/
def rtOf (w : Word) : RegCode := w.extractLsb' 16 5

/-- `w[15:11]` (R36). -/
def rdOf (w : Word) : RegCode := w.extractLsb' 11 5

/-- `w[10:6]` (R36). -/
def shamtOf (w : Word) : ShiftAmount := w.extractLsb' 6 5

/-- `w[5:0]` (R36). -/
def functOf (w : Word) : FunctionCode := w.extractLsb' 0 6

/-- `w[15:0]`, the raw 16 bits (R44). -/
def immOf (w : Word) : Immediate := w.extractLsb' 0 16

/-- `w[25:0]` (R45). -/
def addrOf (w : Word) : Address := w.extractLsb' 0 26

/-- The number an immediate stands for: `uint(imm)` when bit 15 is 0, else `uint(imm) − 65536` (R60). -/
def immediateSigned (imm : Immediate) : Int :=
  if imm.getLsbD 15 then (imm.toNat : Int) - 65536 else (imm.toNat : Int)

/-- The byte jump target `address ++ 00`, with no program-counter bits joined (R45, R62). -/
def jumpTarget (addr : Address) : JumpTarget := addr ++ 0#2

end Sys2Proof.Machine
end

