-- ==== Sys2Proof/Syntax.lean ====
section
/-! DEFINITION. The instructions: one constructor per row of spec/opcode_table.json (R47). A constructor carries the
fields of its format and no other (spec/30_encoding.md R36, R40–R42); its opcode is the row's. -/

namespace Sys2Proof

/-- The 64 rows of the opcode table: `rFormat` is opcode 0, `jOp02` and `jOp03` are opcodes 2 and 3, `iOpNN` is opcode
NN, for each of the other 61 values (R47). Within `rFormat` the function code tells instructions apart and is not
interpreted (R47, R51). -/
inductive Instr where
  | rFormat (rs rt rd : RegCode) (shamt : ShiftAmount) (funct : FunctionCode)
  | iOp01 (rs rt : RegCode) (imm : Immediate)
  | jOp02 (addr : Address)
  | jOp03 (addr : Address)
  | iOp04 (rs rt : RegCode) (imm : Immediate)
  | iOp05 (rs rt : RegCode) (imm : Immediate)
  | iOp06 (rs rt : RegCode) (imm : Immediate)
  | iOp07 (rs rt : RegCode) (imm : Immediate)
  | iOp08 (rs rt : RegCode) (imm : Immediate)
  | iOp09 (rs rt : RegCode) (imm : Immediate)
  | iOp10 (rs rt : RegCode) (imm : Immediate)
  | iOp11 (rs rt : RegCode) (imm : Immediate)
  | iOp12 (rs rt : RegCode) (imm : Immediate)
  | iOp13 (rs rt : RegCode) (imm : Immediate)
  | iOp14 (rs rt : RegCode) (imm : Immediate)
  | iOp15 (rs rt : RegCode) (imm : Immediate)
  | iOp16 (rs rt : RegCode) (imm : Immediate)
  | iOp17 (rs rt : RegCode) (imm : Immediate)
  | iOp18 (rs rt : RegCode) (imm : Immediate)
  | iOp19 (rs rt : RegCode) (imm : Immediate)
  | iOp20 (rs rt : RegCode) (imm : Immediate)
  | iOp21 (rs rt : RegCode) (imm : Immediate)
  | iOp22 (rs rt : RegCode) (imm : Immediate)
  | iOp23 (rs rt : RegCode) (imm : Immediate)
  | iOp24 (rs rt : RegCode) (imm : Immediate)
  | iOp25 (rs rt : RegCode) (imm : Immediate)
  | iOp26 (rs rt : RegCode) (imm : Immediate)
  | iOp27 (rs rt : RegCode) (imm : Immediate)
  | iOp28 (rs rt : RegCode) (imm : Immediate)
  | iOp29 (rs rt : RegCode) (imm : Immediate)
  | iOp30 (rs rt : RegCode) (imm : Immediate)
  | iOp31 (rs rt : RegCode) (imm : Immediate)
  | iOp32 (rs rt : RegCode) (imm : Immediate)
  | iOp33 (rs rt : RegCode) (imm : Immediate)
  | iOp34 (rs rt : RegCode) (imm : Immediate)
  | iOp35 (rs rt : RegCode) (imm : Immediate)
  | iOp36 (rs rt : RegCode) (imm : Immediate)
  | iOp37 (rs rt : RegCode) (imm : Immediate)
  | iOp38 (rs rt : RegCode) (imm : Immediate)
  | iOp39 (rs rt : RegCode) (imm : Immediate)
  | iOp40 (rs rt : RegCode) (imm : Immediate)
  | iOp41 (rs rt : RegCode) (imm : Immediate)
  | iOp42 (rs rt : RegCode) (imm : Immediate)
  | iOp43 (rs rt : RegCode) (imm : Immediate)
  | iOp44 (rs rt : RegCode) (imm : Immediate)
  | iOp45 (rs rt : RegCode) (imm : Immediate)
  | iOp46 (rs rt : RegCode) (imm : Immediate)
  | iOp47 (rs rt : RegCode) (imm : Immediate)
  | iOp48 (rs rt : RegCode) (imm : Immediate)
  | iOp49 (rs rt : RegCode) (imm : Immediate)
  | iOp50 (rs rt : RegCode) (imm : Immediate)
  | iOp51 (rs rt : RegCode) (imm : Immediate)
  | iOp52 (rs rt : RegCode) (imm : Immediate)
  | iOp53 (rs rt : RegCode) (imm : Immediate)
  | iOp54 (rs rt : RegCode) (imm : Immediate)
  | iOp55 (rs rt : RegCode) (imm : Immediate)
  | iOp56 (rs rt : RegCode) (imm : Immediate)
  | iOp57 (rs rt : RegCode) (imm : Immediate)
  | iOp58 (rs rt : RegCode) (imm : Immediate)
  | iOp59 (rs rt : RegCode) (imm : Immediate)
  | iOp60 (rs rt : RegCode) (imm : Immediate)
  | iOp61 (rs rt : RegCode) (imm : Immediate)
  | iOp62 (rs rt : RegCode) (imm : Immediate)
  | iOp63 (rs rt : RegCode) (imm : Immediate)
  deriving DecidableEq, Repr

end Sys2Proof
end

