-- ==== Sys2Proof/WellFormed.lean ====
section
/-! DEFINITION. What makes an instruction and a decoded record well formed. -/

namespace Sys2Proof

/-- Every instruction term is well formed: "every value of every field is legal" (spec/41_extract.md R57), every row's
opcode is fixed by its constructor, and a 6-bit opcode needs no range check (spec/30_encoding.md R37, U14). So there
is nothing to check. -/
def Instr.wellFormed (_ : Instr) : Bool := true

/-- A record that DECODE can return: the I variant's opcode is none of 0, 2 and 3, and the J variant's is 2 or 3
(R58, R59 Operands). -/
def Record.wellFormed : Record → Bool
  | .r _ _ _ _ _ => true
  | .i opcode _ _ _ => opcode ≠ 0#6 && opcode ≠ 2#6 && opcode ≠ 3#6
  | .j opcode _ => opcode = 2#6 || opcode = 3#6

end Sys2Proof
end

