-- ==== Sys2Proof/Decode.lean ====
section
/-! DEFINITION. The decoder from a Word to an instruction, total (spec/42_decode.md R68), and the encoder back
(spec/41_extract.md R64). No Word is refused: the block has no illegal or reserved encoding (spec/30_encoding.md R49). -/

namespace Sys2Proof

open Sys2Proof.Machine

/-- The row of the opcode table that an opcode selects, with the fields of its format (R47). No other field takes part
in the choice (R51; spec/10_state.md R20). Every value but 0 to 62 is 63, so the last arm is row 63. -/
def instrOfFields (op : Opcode) (rs rt rd : RegCode) (shamt : ShiftAmount) (funct : FunctionCode) (imm : Immediate)
    (addr : Address) : Instr :=
  match op with
  | 0#6 => .rFormat rs rt rd shamt funct
  | 1#6 => .iOp01 rs rt imm
  | 2#6 => .jOp02 addr
  | 3#6 => .jOp03 addr
  | 4#6 => .iOp04 rs rt imm
  | 5#6 => .iOp05 rs rt imm
  | 6#6 => .iOp06 rs rt imm
  | 7#6 => .iOp07 rs rt imm
  | 8#6 => .iOp08 rs rt imm
  | 9#6 => .iOp09 rs rt imm
  | 10#6 => .iOp10 rs rt imm
  | 11#6 => .iOp11 rs rt imm
  | 12#6 => .iOp12 rs rt imm
  | 13#6 => .iOp13 rs rt imm
  | 14#6 => .iOp14 rs rt imm
  | 15#6 => .iOp15 rs rt imm
  | 16#6 => .iOp16 rs rt imm
  | 17#6 => .iOp17 rs rt imm
  | 18#6 => .iOp18 rs rt imm
  | 19#6 => .iOp19 rs rt imm
  | 20#6 => .iOp20 rs rt imm
  | 21#6 => .iOp21 rs rt imm
  | 22#6 => .iOp22 rs rt imm
  | 23#6 => .iOp23 rs rt imm
  | 24#6 => .iOp24 rs rt imm
  | 25#6 => .iOp25 rs rt imm
  | 26#6 => .iOp26 rs rt imm
  | 27#6 => .iOp27 rs rt imm
  | 28#6 => .iOp28 rs rt imm
  | 29#6 => .iOp29 rs rt imm
  | 30#6 => .iOp30 rs rt imm
  | 31#6 => .iOp31 rs rt imm
  | 32#6 => .iOp32 rs rt imm
  | 33#6 => .iOp33 rs rt imm
  | 34#6 => .iOp34 rs rt imm
  | 35#6 => .iOp35 rs rt imm
  | 36#6 => .iOp36 rs rt imm
  | 37#6 => .iOp37 rs rt imm
  | 38#6 => .iOp38 rs rt imm
  | 39#6 => .iOp39 rs rt imm
  | 40#6 => .iOp40 rs rt imm
  | 41#6 => .iOp41 rs rt imm
  | 42#6 => .iOp42 rs rt imm
  | 43#6 => .iOp43 rs rt imm
  | 44#6 => .iOp44 rs rt imm
  | 45#6 => .iOp45 rs rt imm
  | 46#6 => .iOp46 rs rt imm
  | 47#6 => .iOp47 rs rt imm
  | 48#6 => .iOp48 rs rt imm
  | 49#6 => .iOp49 rs rt imm
  | 50#6 => .iOp50 rs rt imm
  | 51#6 => .iOp51 rs rt imm
  | 52#6 => .iOp52 rs rt imm
  | 53#6 => .iOp53 rs rt imm
  | 54#6 => .iOp54 rs rt imm
  | 55#6 => .iOp55 rs rt imm
  | 56#6 => .iOp56 rs rt imm
  | 57#6 => .iOp57 rs rt imm
  | 58#6 => .iOp58 rs rt imm
  | 59#6 => .iOp59 rs rt imm
  | 60#6 => .iOp60 rs rt imm
  | 61#6 => .iOp61 rs rt imm
  | 62#6 => .iOp62 rs rt imm
  | _ => .iOp63 rs rt imm

/-- The instruction a Word stands for. Every Word decodes (R49, R68). -/
def decode (w : Word) : Instr :=
  instrOfFields (opcodeOf w) (rsOf w) (rtOf w) (rdOf w) (shamtOf w) (functOf w) (immOf w) (addrOf w)

/-- The variant fields of an instruction, with its row's opcode (spec/10_state.md R19; spec/opcode_table.json). -/
def Instr.record : Instr → Record
  | .rFormat rs rt rd shamt funct => .r rs rt rd shamt funct
  | .iOp01 rs rt imm => .i 1#6 rs rt imm
  | .jOp02 addr => .j 2#6 addr
  | .jOp03 addr => .j 3#6 addr
  | .iOp04 rs rt imm => .i 4#6 rs rt imm
  | .iOp05 rs rt imm => .i 5#6 rs rt imm
  | .iOp06 rs rt imm => .i 6#6 rs rt imm
  | .iOp07 rs rt imm => .i 7#6 rs rt imm
  | .iOp08 rs rt imm => .i 8#6 rs rt imm
  | .iOp09 rs rt imm => .i 9#6 rs rt imm
  | .iOp10 rs rt imm => .i 10#6 rs rt imm
  | .iOp11 rs rt imm => .i 11#6 rs rt imm
  | .iOp12 rs rt imm => .i 12#6 rs rt imm
  | .iOp13 rs rt imm => .i 13#6 rs rt imm
  | .iOp14 rs rt imm => .i 14#6 rs rt imm
  | .iOp15 rs rt imm => .i 15#6 rs rt imm
  | .iOp16 rs rt imm => .i 16#6 rs rt imm
  | .iOp17 rs rt imm => .i 17#6 rs rt imm
  | .iOp18 rs rt imm => .i 18#6 rs rt imm
  | .iOp19 rs rt imm => .i 19#6 rs rt imm
  | .iOp20 rs rt imm => .i 20#6 rs rt imm
  | .iOp21 rs rt imm => .i 21#6 rs rt imm
  | .iOp22 rs rt imm => .i 22#6 rs rt imm
  | .iOp23 rs rt imm => .i 23#6 rs rt imm
  | .iOp24 rs rt imm => .i 24#6 rs rt imm
  | .iOp25 rs rt imm => .i 25#6 rs rt imm
  | .iOp26 rs rt imm => .i 26#6 rs rt imm
  | .iOp27 rs rt imm => .i 27#6 rs rt imm
  | .iOp28 rs rt imm => .i 28#6 rs rt imm
  | .iOp29 rs rt imm => .i 29#6 rs rt imm
  | .iOp30 rs rt imm => .i 30#6 rs rt imm
  | .iOp31 rs rt imm => .i 31#6 rs rt imm
  | .iOp32 rs rt imm => .i 32#6 rs rt imm
  | .iOp33 rs rt imm => .i 33#6 rs rt imm
  | .iOp34 rs rt imm => .i 34#6 rs rt imm
  | .iOp35 rs rt imm => .i 35#6 rs rt imm
  | .iOp36 rs rt imm => .i 36#6 rs rt imm
  | .iOp37 rs rt imm => .i 37#6 rs rt imm
  | .iOp38 rs rt imm => .i 38#6 rs rt imm
  | .iOp39 rs rt imm => .i 39#6 rs rt imm
  | .iOp40 rs rt imm => .i 40#6 rs rt imm
  | .iOp41 rs rt imm => .i 41#6 rs rt imm
  | .iOp42 rs rt imm => .i 42#6 rs rt imm
  | .iOp43 rs rt imm => .i 43#6 rs rt imm
  | .iOp44 rs rt imm => .i 44#6 rs rt imm
  | .iOp45 rs rt imm => .i 45#6 rs rt imm
  | .iOp46 rs rt imm => .i 46#6 rs rt imm
  | .iOp47 rs rt imm => .i 47#6 rs rt imm
  | .iOp48 rs rt imm => .i 48#6 rs rt imm
  | .iOp49 rs rt imm => .i 49#6 rs rt imm
  | .iOp50 rs rt imm => .i 50#6 rs rt imm
  | .iOp51 rs rt imm => .i 51#6 rs rt imm
  | .iOp52 rs rt imm => .i 52#6 rs rt imm
  | .iOp53 rs rt imm => .i 53#6 rs rt imm
  | .iOp54 rs rt imm => .i 54#6 rs rt imm
  | .iOp55 rs rt imm => .i 55#6 rs rt imm
  | .iOp56 rs rt imm => .i 56#6 rs rt imm
  | .iOp57 rs rt imm => .i 57#6 rs rt imm
  | .iOp58 rs rt imm => .i 58#6 rs rt imm
  | .iOp59 rs rt imm => .i 59#6 rs rt imm
  | .iOp60 rs rt imm => .i 60#6 rs rt imm
  | .iOp61 rs rt imm => .i 61#6 rs rt imm
  | .iOp62 rs rt imm => .i 62#6 rs rt imm
  | .iOp63 rs rt imm => .i 63#6 rs rt imm

/-- The Word that a record's variant fields reassemble to (R64; layouts R40, R41, R42). -/
def Record.reassemble : Record → Word
  | .r rs rt rd shamt funct => 0#6 ++ rs ++ rt ++ rd ++ shamt ++ funct
  | .i opcode rs rt imm => opcode ++ rs ++ rt ++ imm
  | .j opcode addr => opcode ++ addr

/-- The Word of an instruction (R64). -/
def encode (i : Instr) : Word := i.record.reassemble

/-- The Word that `nbits` bits given as the number `w` stand for. The block takes the Word as a bit vector and has no
bytes (spec/20_memory.md R29), so bit k of the number is bit k of the Word. Bits from `nbits` up are 0, and more than
32 bits are no Word (R38). -/
def wordOfBits (nbits w : Nat) : Option Word :=
  if nbits ≤ 32 then some (BitVec.ofNat 32 (w % 2 ^ nbits)) else none

/-- The instruction the decoder reads from `nbits` bits given as a number (host interface; log 15). -/
def decodeTableWord (nbits w : Nat) : Option Instr := (wordOfBits nbits w).map decode

end Sys2Proof
end

