-- ==== Sys2Proof/Machine/Flags.lean ====
section
/-! DEFINITION. The block has no flags and no condition codes: "No output is a sticky or status bit" (spec/10_state.md
R25). What stands here is the one status-like output, the 2-bit encoding of the format tag on the `fmt` port
(spec/30_encoding.md R39, R50). -/

namespace Sys2Proof.Machine

/-- The encoding of a tag on the `fmt` port: R 00, I 01, J 10 (R39; the spec's own choice D3). -/
def encodeTag : FormatTag → BitVec 2
  | .R => 0b00#2
  | .I => 0b01#2
  | .J => 0b10#2

/-- The tag a consumer reads from `fmt`; none for the reserved value 11, which the block never drives (R50, U7). -/
def tagOfFmt (fmt : BitVec 2) : Option FormatTag :=
  match fmt with
  | 0b00#2 => some .R
  | 0b01#2 => some .I
  | 0b10#2 => some .J
  | _ => none

end Sys2Proof.Machine
end

