-- ==== Sys2Proof/Machine/State.lean ====
section
/-! DEFINITION. The state of the model. The block holds no architectural state (spec/10_state.md R15): what is held is
the value on each of its ports (R16), absent until the host drives a Word (R26), and the host's side of the contract
(spec/00_scope.md R4, R8, R13). There is no register, program counter, flag, control register or memory (R22–R25;
spec/20_memory.md R28). -/

namespace Sys2Proof.Machine

/-- The output ports (R16). `tag` is the `fmt` port, held as the tag it encodes (R39, D3). Every port is driven,
whatever the format (R18). -/
structure Outputs where
  tag     : FormatTag
  opcode  : Opcode
  rs      : RegCode
  rt      : RegCode
  rd      : RegCode
  shamt   : ShiftAmount
  funct   : FunctionCode
  imm     : Immediate
  addr    : Address
  jtarget : JumpTarget
  deriving DecidableEq, Repr

/-- A name table: unavailable with its fault, or its rows, key and name. It stands for the parameter type
`Except ConfigFault (key → Option String)` of R8 as plain data (log 7). -/
inductive Table (κ : Type) where
  | unavailable (fault : ConfigFault)
  | loaded (rows : List (κ × Str))
  deriving DecidableEq, Repr

/-- The OPEN parameter DETAIL_NAME_PREFIX ∈ {"", "$"} (92_eei_decisions.md D15, U13). -/
inductive DetailNamePrefix where
  | bare
  | dollar
  deriving DecidableEq, Repr

/-- The host's read-only name tables and parameters (R8; spec/20_memory.md R34). -/
structure HostTables where
  regTable         : Table RegCode
  mnOpcode         : Table Opcode
  mnFunct          : Table FunctionCode
  /-- The instruction table's optional FORMAT attribute (spec/70_reset_and_hazards.md R102, R103): carried, never
  read by the block or by RENDER (spec/40_classify.md R54). -/
  formatColumn     : Option (List (Opcode × FormatTag))
  detailNamePrefix : DetailNamePrefix
  deriving DecidableEq, Repr

/-- A name query of RESOLVE (spec/45_host_render.md R75–R77): which lookup, and its key. -/
inductive Query where
  | register (role : RegRole) (code : RegCode)
  | opcode (key : Opcode)
  | functionCode (key : FunctionCode)
  deriving DecidableEq, Repr

/-- What the host may do next (R13). Each is one step (log 5). -/
inductive HostAction where
  | provideTables (tables : HostTables)   -- make the backing tables available (R102)
  | present (w : Word)                    -- drive a Word: the block evaluates it (R13, R17)
  | parseBits (s : Str)                   -- PARSE_BITS alone (R70)
  | decodeBits (s : Str)                  -- PARSE_BITS, then the block's DECODE (R74)
  | display (s : Str)                     -- PARSE_BITS, DECODE, then RENDER: the whole data flow (R69)
  | readPorts                             -- read every output port (R13, R18)
  | readRecord                            -- read the decoded record, the variant fields only (R18, R19)
  | resolve (q : Query)                   -- RESOLVE alone (R75)
  | render                                -- RENDER the record on the ports (R81)
  deriving DecidableEq, Repr

/-- What a host operation returned (R11 `return` and `raise`, R92). -/
inductive HostResult where
  | word (w : Word)           -- of PARSE_BITS
  | ports (o : Outputs)       -- of reading the ports
  | record (r : Record)       -- of DECODE
  | name (n : Str)            -- of RESOLVE
  | text (t : Str)            -- of RENDER
  | failed (e : HostError)    -- the error that ended the operation
  deriving DecidableEq, Repr

/-- The whole state, plain data. -/
structure State where
  /-- The input port; none before the host drives a Word (R17, R26). -/
  word    : Option Word
  /-- The output ports; none before a Word is driven: "must not pick one" (R26, D19). -/
  outputs : Option Outputs
  /-- What the host does next, oldest first (R13, R34). The model's own field (log 3). -/
  actions : List HostAction
  /-- What the host's operations returned, oldest first. The model's own field (log 3). -/
  results : List HostResult
  /-- The host's tables (R8). -/
  tables  : HostTables
  deriving DecidableEq, Repr

/-- The named stops. Both are U8, "stuck: no output exists to read. A model must not pick a value". -/
inductive Fault where
  /-- Raised by `hostTurn`: no Word was ever driven and the host does nothing, so there is nothing to evaluate
  (spec/10_state.md R26). Safe: nothing can be proved of outputs that do not exist. -/
  | noWordDriven
  /-- Raised by `hostTurn`: the host reads the outputs (readPorts, readRecord, render) before any Word was driven
  (R26, R100). Safe. -/
  | outputsUndefined
  deriving DecidableEq, Repr

/-- Why an instruction has no meaning. No arm uses it: every instruction has one. -/
inductive Refusal where
  /-- Raised by `exec` for an instruction that is not modelled. Safe. -/
  | notModelled (mnemonic : String)
  deriving DecidableEq, Repr

/-- The host's tables before it has made them available: RENDER then raises ConfigurationError (R80, R102; log 6). -/
def HostTables.absent : HostTables where
  regTable := .unavailable .tableMissing
  mnOpcode := .unavailable .tableMissing
  mnFunct := .unavailable .tableMissing
  formatColumn := none
  detailNamePrefix := .bare

/-- The machine at power-up: no Word on the port, no output (R26, R100), the host with nothing to do (log 3) and no
table made available (log 6). -/
def State.reset : State where
  word := none
  outputs := none
  actions := []
  results := []
  tables := HostTables.absent

end Sys2Proof.Machine
end

