-- ==== Sys2Proof/Machine/Block.lean ====
section
/-! DEFINITION. The block's three operations on a Word, as the spec writes them: CLASSIFY (spec/40_classify.md R52),
EXTRACT (spec/41_extract.md R56–R59) and DECODE (spec/42_decode.md R67), and its port table (spec/10_state.md R16).
`exec` reaches the same values from an instruction's fields; that the two agree is stated as an obligation. -/

namespace Sys2Proof.Machine

/-- CLASSIFY: the hardwired policy, on `w[31:26]` alone (R52, R54). -/
def classify (w : Word) : FormatTag :=
  let op := opcodeOf w
  if op = 0#6 then .R else if op = 2#6 ∨ op = 3#6 then .J else .I

/-- EXTRACT_R (R57). -/
def extractR (w : Word) : Record := .r (rsOf w) (rtOf w) (rdOf w) (shamtOf w) (functOf w)

/-- EXTRACT_I (R58). -/
def extractI (w : Word) : Record := .i (opcodeOf w) (rsOf w) (rtOf w) (immOf w)

/-- EXTRACT_J (R59). -/
def extractJ (w : Word) : Record := .j (opcodeOf w) (addrOf w)

/-- EXTRACT dispatches on the tag; pure and total (R56). -/
def extract (w : Word) (tag : FormatTag) : Record :=
  match tag with
  | .R => extractR w
  | .I => extractI w
  | .J => extractJ w

/-- DECODE on a Word, to the record; total, cannot fail (R67, R68). -/
def decodeRecord (w : Word) : Record := extract w (classify w)

/-- The port table: every output port as a function of the Word alone (R16), each field port its slice whatever the
format (R18). -/
def outputsOf (w : Word) : Outputs where
  tag := classify w
  opcode := opcodeOf w
  rs := rsOf w
  rt := rtOf w
  rd := rdOf w
  shamt := shamtOf w
  funct := functOf w
  imm := immOf w
  addr := addrOf w
  jtarget := jumpTarget (addrOf w)

/-- The variant of a record, as the tag of its format (R19, R55). -/
def variantOf : Record → FormatTag
  | .r _ _ _ _ _ => .R
  | .i _ _ _ _ => .I
  | .j _ _ => .J

/-- The 2-bit value on the `fmt` port (R16, R39). -/
def Outputs.fmt (o : Outputs) : BitVec 2 := encodeTag o.tag

/-- The decoded record that the ports form: the variant fields of the format `fmt` names, and no other port
(R18, R19). -/
def Outputs.record (o : Outputs) : Record :=
  match o.tag with
  | .R => .r o.rs o.rt o.rd o.shamt o.funct
  | .I => .i o.opcode o.rs o.rt o.imm
  | .J => .j o.opcode o.addr

end Sys2Proof.Machine
end

