-- ==== Sys2Proof/Machine/Ops.lean ====
section
/-! DEFINITION. The named operations over the state that the meanings and the host's turn share. There is no register
file and no memory to read or write (spec/10_state.md R22; spec/20_memory.md R28), and no exception to take or return
from (spec/60_exceptions.md R94, R97): an error is a returned value, `State.fail`. -/

namespace Sys2Proof.Machine

/-- The block drives its output ports (R16). -/
def State.driveOutputs (o : Outputs) (s : State) : State := { s with outputs := some o }

/-- The host drives the input port (R17). -/
def State.driveWord (w : Word) (s : State) : State := { s with word := some w }

/-- The host's next action is `a`, before those already there. -/
def State.pushAction (a : HostAction) (s : State) : State := { s with actions := a :: s.actions }

/-- A host operation returns `r` (R11). -/
def State.returnResult (r : HostResult) (s : State) : State := { s with results := s.results ++ [r] }

/-- A host operation raises `e`: it returns the error and does nothing else (R11, R92, R94). -/
def State.fail (e : HostError) (s : State) : State := s.returnResult (.failed e)

/-- The host makes the tables available (spec/70_reset_and_hazards.md R102). -/
def State.provideTables (t : HostTables) (s : State) : State := { s with tables := t }

/-- What the ports carry for an R-format instruction: the R57 ports from its fields, `opcode` 0 (R19, R52), and each
off-variant port the slice of the Word it stands for (R18, D5; log 10). -/
def outputsR (rs rt rd : RegCode) (shamt : ShiftAmount) (funct : FunctionCode) : Outputs where
  tag := .R
  opcode := 0#6
  rs := rs
  rt := rt
  rd := rd
  shamt := shamt
  funct := funct
  imm := rd ++ shamt ++ funct
  addr := rs ++ rt ++ rd ++ shamt ++ funct
  jtarget := jumpTarget (rs ++ rt ++ rd ++ shamt ++ funct)

/-- What the ports carry for an I-format instruction (R58), with the off-variant slices (R18). -/
def outputsI (opcode : Opcode) (rs rt : RegCode) (imm : Immediate) : Outputs where
  tag := .I
  opcode := opcode
  rs := rs
  rt := rt
  rd := imm.extractLsb' 11 5
  shamt := imm.extractLsb' 6 5
  funct := imm.extractLsb' 0 6
  imm := imm
  addr := rs ++ rt ++ imm
  jtarget := jumpTarget (rs ++ rt ++ imm)

/-- What the ports carry for a J-format instruction (R59, R62), with the off-variant slices (R18). -/
def outputsJ (opcode : Opcode) (addr : Address) : Outputs where
  tag := .J
  opcode := opcode
  rs := addr.extractLsb' 21 5
  rt := addr.extractLsb' 16 5
  rd := addr.extractLsb' 11 5
  shamt := addr.extractLsb' 6 5
  funct := addr.extractLsb' 0 6
  imm := addr.extractLsb' 0 16
  addr := addr
  jtarget := jumpTarget addr

/-- One evaluation of the block on an R-format instruction (R57). It drives the output ports and nothing else: the
block decodes and does not execute (R66). -/
def evaluateR (rs rt rd : RegCode) (shamt : ShiftAmount) (funct : FunctionCode) (s : State) :
    Host.Outcome State Fault Refusal :=
  .next (s.driveOutputs (outputsR rs rt rd shamt funct))

/-- One evaluation of the block on an I-format instruction (R58, R66). -/
def evaluateI (opcode : Opcode) (rs rt : RegCode) (imm : Immediate) (s : State) :
    Host.Outcome State Fault Refusal :=
  .next (s.driveOutputs (outputsI opcode rs rt imm))

/-- One evaluation of the block on a J-format instruction (R59, R66). -/
def evaluateJ (opcode : Opcode) (addr : Address) (s : State) : Host.Outcome State Fault Refusal :=
  .next (s.driveOutputs (outputsJ opcode addr))

end Sys2Proof.Machine
end

