-- ==== Sys2Proof/Machine/IFormat.lean ====
section
/-! DEFINITION. The meanings of the 61 immediate-format rows (spec/41_extract.md R58). Each is a definition of its own
over the one shared evaluation of the format. No opcode is sub-decoded (spec/30_encoding.md R51) and none has an
execution meaning (R66). -/

namespace Sys2Proof.Machine

/-- I_OP01: opcode 1 (R58). -/
def execIOp01 (rs rt : RegCode) (imm : Immediate) (s : State) : Host.Outcome State Fault Refusal :=
  evaluateI 1#6 rs rt imm s

/-- I_OP04: opcode 4 (R58). -/
def execIOp04 (rs rt : RegCode) (imm : Immediate) (s : State) : Host.Outcome State Fault Refusal :=
  evaluateI 4#6 rs rt imm s

/-- I_OP05: opcode 5 (R58). -/
def execIOp05 (rs rt : RegCode) (imm : Immediate) (s : State) : Host.Outcome State Fault Refusal :=
  evaluateI 5#6 rs rt imm s

/-- I_OP06: opcode 6 (R58). -/
def execIOp06 (rs rt : RegCode) (imm : Immediate) (s : State) : Host.Outcome State Fault Refusal :=
  evaluateI 6#6 rs rt imm s

/-- I_OP07: opcode 7 (R58). -/
def execIOp07 (rs rt : RegCode) (imm : Immediate) (s : State) : Host.Outcome State Fault Refusal :=
  evaluateI 7#6 rs rt imm s

/-- I_OP08: opcode 8 (R58). -/
def execIOp08 (rs rt : RegCode) (imm : Immediate) (s : State) : Host.Outcome State Fault Refusal :=
  evaluateI 8#6 rs rt imm s

/-- I_OP09: opcode 9 (R58). -/
def execIOp09 (rs rt : RegCode) (imm : Immediate) (s : State) : Host.Outcome State Fault Refusal :=
  evaluateI 9#6 rs rt imm s

/-- I_OP10: opcode 10 (R58). -/
def execIOp10 (rs rt : RegCode) (imm : Immediate) (s : State) : Host.Outcome State Fault Refusal :=
  evaluateI 10#6 rs rt imm s

/-- I_OP11: opcode 11 (R58). -/
def execIOp11 (rs rt : RegCode) (imm : Immediate) (s : State) : Host.Outcome State Fault Refusal :=
  evaluateI 11#6 rs rt imm s

/-- I_OP12: opcode 12 (R58). -/
def execIOp12 (rs rt : RegCode) (imm : Immediate) (s : State) : Host.Outcome State Fault Refusal :=
  evaluateI 12#6 rs rt imm s

/-- I_OP13: opcode 13 (R58). -/
def execIOp13 (rs rt : RegCode) (imm : Immediate) (s : State) : Host.Outcome State Fault Refusal :=
  evaluateI 13#6 rs rt imm s

/-- I_OP14: opcode 14 (R58). -/
def execIOp14 (rs rt : RegCode) (imm : Immediate) (s : State) : Host.Outcome State Fault Refusal :=
  evaluateI 14#6 rs rt imm s

/-- I_OP15: opcode 15 (R58). -/
def execIOp15 (rs rt : RegCode) (imm : Immediate) (s : State) : Host.Outcome State Fault Refusal :=
  evaluateI 15#6 rs rt imm s

/-- I_OP16: opcode 16 (R58). -/
def execIOp16 (rs rt : RegCode) (imm : Immediate) (s : State) : Host.Outcome State Fault Refusal :=
  evaluateI 16#6 rs rt imm s

/-- I_OP17: opcode 17 (R58). -/
def execIOp17 (rs rt : RegCode) (imm : Immediate) (s : State) : Host.Outcome State Fault Refusal :=
  evaluateI 17#6 rs rt imm s

/-- I_OP18: opcode 18 (R58). -/
def execIOp18 (rs rt : RegCode) (imm : Immediate) (s : State) : Host.Outcome State Fault Refusal :=
  evaluateI 18#6 rs rt imm s

/-- I_OP19: opcode 19 (R58). -/
def execIOp19 (rs rt : RegCode) (imm : Immediate) (s : State) : Host.Outcome State Fault Refusal :=
  evaluateI 19#6 rs rt imm s

/-- I_OP20: opcode 20 (R58). -/
def execIOp20 (rs rt : RegCode) (imm : Immediate) (s : State) : Host.Outcome State Fault Refusal :=
  evaluateI 20#6 rs rt imm s

/-- I_OP21: opcode 21 (R58). -/
def execIOp21 (rs rt : RegCode) (imm : Immediate) (s : State) : Host.Outcome State Fault Refusal :=
  evaluateI 21#6 rs rt imm s

/-- I_OP22: opcode 22 (R58). -/
def execIOp22 (rs rt : RegCode) (imm : Immediate) (s : State) : Host.Outcome State Fault Refusal :=
  evaluateI 22#6 rs rt imm s

/-- I_OP23: opcode 23 (R58). -/
def execIOp23 (rs rt : RegCode) (imm : Immediate) (s : State) : Host.Outcome State Fault Refusal :=
  evaluateI 23#6 rs rt imm s

/-- I_OP24: opcode 24 (R58). -/
def execIOp24 (rs rt : RegCode) (imm : Immediate) (s : State) : Host.Outcome State Fault Refusal :=
  evaluateI 24#6 rs rt imm s

/-- I_OP25: opcode 25 (R58). -/
def execIOp25 (rs rt : RegCode) (imm : Immediate) (s : State) : Host.Outcome State Fault Refusal :=
  evaluateI 25#6 rs rt imm s

/-- I_OP26: opcode 26 (R58). -/
def execIOp26 (rs rt : RegCode) (imm : Immediate) (s : State) : Host.Outcome State Fault Refusal :=
  evaluateI 26#6 rs rt imm s

/-- I_OP27: opcode 27 (R58). -/
def execIOp27 (rs rt : RegCode) (imm : Immediate) (s : State) : Host.Outcome State Fault Refusal :=
  evaluateI 27#6 rs rt imm s

/-- I_OP28: opcode 28 (R58). -/
def execIOp28 (rs rt : RegCode) (imm : Immediate) (s : State) : Host.Outcome State Fault Refusal :=
  evaluateI 28#6 rs rt imm s

/-- I_OP29: opcode 29 (R58). -/
def execIOp29 (rs rt : RegCode) (imm : Immediate) (s : State) : Host.Outcome State Fault Refusal :=
  evaluateI 29#6 rs rt imm s

/-- I_OP30: opcode 30 (R58). -/
def execIOp30 (rs rt : RegCode) (imm : Immediate) (s : State) : Host.Outcome State Fault Refusal :=
  evaluateI 30#6 rs rt imm s

/-- I_OP31: opcode 31 (R58). -/
def execIOp31 (rs rt : RegCode) (imm : Immediate) (s : State) : Host.Outcome State Fault Refusal :=
  evaluateI 31#6 rs rt imm s

/-- I_OP32: opcode 32 (R58). -/
def execIOp32 (rs rt : RegCode) (imm : Immediate) (s : State) : Host.Outcome State Fault Refusal :=
  evaluateI 32#6 rs rt imm s

/-- I_OP33: opcode 33 (R58). -/
def execIOp33 (rs rt : RegCode) (imm : Immediate) (s : State) : Host.Outcome State Fault Refusal :=
  evaluateI 33#6 rs rt imm s

/-- I_OP34: opcode 34 (R58). -/
def execIOp34 (rs rt : RegCode) (imm : Immediate) (s : State) : Host.Outcome State Fault Refusal :=
  evaluateI 34#6 rs rt imm s

/-- I_OP35: opcode 35 (R58). -/
def execIOp35 (rs rt : RegCode) (imm : Immediate) (s : State) : Host.Outcome State Fault Refusal :=
  evaluateI 35#6 rs rt imm s

/-- I_OP36: opcode 36 (R58). -/
def execIOp36 (rs rt : RegCode) (imm : Immediate) (s : State) : Host.Outcome State Fault Refusal :=
  evaluateI 36#6 rs rt imm s

/-- I_OP37: opcode 37 (R58). -/
def execIOp37 (rs rt : RegCode) (imm : Immediate) (s : State) : Host.Outcome State Fault Refusal :=
  evaluateI 37#6 rs rt imm s

/-- I_OP38: opcode 38 (R58). -/
def execIOp38 (rs rt : RegCode) (imm : Immediate) (s : State) : Host.Outcome State Fault Refusal :=
  evaluateI 38#6 rs rt imm s

/-- I_OP39: opcode 39 (R58). -/
def execIOp39 (rs rt : RegCode) (imm : Immediate) (s : State) : Host.Outcome State Fault Refusal :=
  evaluateI 39#6 rs rt imm s

/-- I_OP40: opcode 40 (R58). -/
def execIOp40 (rs rt : RegCode) (imm : Immediate) (s : State) : Host.Outcome State Fault Refusal :=
  evaluateI 40#6 rs rt imm s

/-- I_OP41: opcode 41 (R58). -/
def execIOp41 (rs rt : RegCode) (imm : Immediate) (s : State) : Host.Outcome State Fault Refusal :=
  evaluateI 41#6 rs rt imm s

/-- I_OP42: opcode 42 (R58). -/
def execIOp42 (rs rt : RegCode) (imm : Immediate) (s : State) : Host.Outcome State Fault Refusal :=
  evaluateI 42#6 rs rt imm s

/-- I_OP43: opcode 43 (R58). -/
def execIOp43 (rs rt : RegCode) (imm : Immediate) (s : State) : Host.Outcome State Fault Refusal :=
  evaluateI 43#6 rs rt imm s

/-- I_OP44: opcode 44 (R58). -/
def execIOp44 (rs rt : RegCode) (imm : Immediate) (s : State) : Host.Outcome State Fault Refusal :=
  evaluateI 44#6 rs rt imm s

/-- I_OP45: opcode 45 (R58). -/
def execIOp45 (rs rt : RegCode) (imm : Immediate) (s : State) : Host.Outcome State Fault Refusal :=
  evaluateI 45#6 rs rt imm s

/-- I_OP46: opcode 46 (R58). -/
def execIOp46 (rs rt : RegCode) (imm : Immediate) (s : State) : Host.Outcome State Fault Refusal :=
  evaluateI 46#6 rs rt imm s

/-- I_OP47: opcode 47 (R58). -/
def execIOp47 (rs rt : RegCode) (imm : Immediate) (s : State) : Host.Outcome State Fault Refusal :=
  evaluateI 47#6 rs rt imm s

/-- I_OP48: opcode 48 (R58). -/
def execIOp48 (rs rt : RegCode) (imm : Immediate) (s : State) : Host.Outcome State Fault Refusal :=
  evaluateI 48#6 rs rt imm s

/-- I_OP49: opcode 49 (R58). -/
def execIOp49 (rs rt : RegCode) (imm : Immediate) (s : State) : Host.Outcome State Fault Refusal :=
  evaluateI 49#6 rs rt imm s

/-- I_OP50: opcode 50 (R58). -/
def execIOp50 (rs rt : RegCode) (imm : Immediate) (s : State) : Host.Outcome State Fault Refusal :=
  evaluateI 50#6 rs rt imm s

/-- I_OP51: opcode 51 (R58). -/
def execIOp51 (rs rt : RegCode) (imm : Immediate) (s : State) : Host.Outcome State Fault Refusal :=
  evaluateI 51#6 rs rt imm s

/-- I_OP52: opcode 52 (R58). -/
def execIOp52 (rs rt : RegCode) (imm : Immediate) (s : State) : Host.Outcome State Fault Refusal :=
  evaluateI 52#6 rs rt imm s

/-- I_OP53: opcode 53 (R58). -/
def execIOp53 (rs rt : RegCode) (imm : Immediate) (s : State) : Host.Outcome State Fault Refusal :=
  evaluateI 53#6 rs rt imm s

/-- I_OP54: opcode 54 (R58). -/
def execIOp54 (rs rt : RegCode) (imm : Immediate) (s : State) : Host.Outcome State Fault Refusal :=
  evaluateI 54#6 rs rt imm s

/-- I_OP55: opcode 55 (R58). -/
def execIOp55 (rs rt : RegCode) (imm : Immediate) (s : State) : Host.Outcome State Fault Refusal :=
  evaluateI 55#6 rs rt imm s

/-- I_OP56: opcode 56 (R58). -/
def execIOp56 (rs rt : RegCode) (imm : Immediate) (s : State) : Host.Outcome State Fault Refusal :=
  evaluateI 56#6 rs rt imm s

/-- I_OP57: opcode 57 (R58). -/
def execIOp57 (rs rt : RegCode) (imm : Immediate) (s : State) : Host.Outcome State Fault Refusal :=
  evaluateI 57#6 rs rt imm s

/-- I_OP58: opcode 58 (R58). -/
def execIOp58 (rs rt : RegCode) (imm : Immediate) (s : State) : Host.Outcome State Fault Refusal :=
  evaluateI 58#6 rs rt imm s

/-- I_OP59: opcode 59 (R58). -/
def execIOp59 (rs rt : RegCode) (imm : Immediate) (s : State) : Host.Outcome State Fault Refusal :=
  evaluateI 59#6 rs rt imm s

/-- I_OP60: opcode 60 (R58). -/
def execIOp60 (rs rt : RegCode) (imm : Immediate) (s : State) : Host.Outcome State Fault Refusal :=
  evaluateI 60#6 rs rt imm s

/-- I_OP61: opcode 61 (R58). -/
def execIOp61 (rs rt : RegCode) (imm : Immediate) (s : State) : Host.Outcome State Fault Refusal :=
  evaluateI 61#6 rs rt imm s

/-- I_OP62: opcode 62 (R58). -/
def execIOp62 (rs rt : RegCode) (imm : Immediate) (s : State) : Host.Outcome State Fault Refusal :=
  evaluateI 62#6 rs rt imm s

/-- I_OP63: opcode 63 (R58). -/
def execIOp63 (rs rt : RegCode) (imm : Immediate) (s : State) : Host.Outcome State Fault Refusal :=
  evaluateI 63#6 rs rt imm s

end Sys2Proof.Machine
end

