-- ==== Sys2Proof/Machine/JFormat.lean ====
section
/-! DEFINITION. The meanings of the two jump rows (spec/41_extract.md R59). The block computes the byte target and
makes no jump (R63, R66). -/

namespace Sys2Proof.Machine

/-- J_OP02: opcode 2 (R59). -/
def execJOp02 (addr : Address) (s : State) : Host.Outcome State Fault Refusal := evaluateJ 2#6 addr s

/-- J_OP03: opcode 3 (R59). No link register is written (R63, R66). -/
def execJOp03 (addr : Address) (s : State) : Host.Outcome State Fault Refusal := evaluateJ 3#6 addr s

end Sys2Proof.Machine
end

