-- ==== Sys2Proof/Machine/RFormat.lean ====
section
/-! DEFINITION. The meaning of the register-to-register row (spec/41_extract.md R57). -/

namespace Sys2Proof.Machine

/-- R_FORMAT: opcode 0. Every value of every field is legal, a non-zero shift amount with any function code among them
(R51, R57). -/
def execRFormat (rs rt rd : RegCode) (shamt : ShiftAmount) (funct : FunctionCode) (s : State) :
    Host.Outcome State Fault Refusal :=
  evaluateR rs rt rd shamt funct s

end Sys2Proof.Machine
end

