-- ==== Sys2Proof/Machine/Dispatch.lean ====
section
/-! DEFINITION. One arm per constructor of Instr, each one direct call of the instruction's meaning. -/

namespace Sys2Proof.Machine

def exec (i : Instr) (s : State) : Host.Outcome State Fault Refusal :=
  match i with
  | .rFormat rs rt rd shamt funct => Sys2Proof.Machine.execRFormat rs rt rd shamt funct s
  | .iOp01 rs rt imm => Sys2Proof.Machine.execIOp01 rs rt imm s
  | .jOp02 addr => Sys2Proof.Machine.execJOp02 addr s
  | .jOp03 addr => Sys2Proof.Machine.execJOp03 addr s
  | .iOp04 rs rt imm => Sys2Proof.Machine.execIOp04 rs rt imm s
  | .iOp05 rs rt imm => Sys2Proof.Machine.execIOp05 rs rt imm s
  | .iOp06 rs rt imm => Sys2Proof.Machine.execIOp06 rs rt imm s
  | .iOp07 rs rt imm => Sys2Proof.Machine.execIOp07 rs rt imm s
  | .iOp08 rs rt imm => Sys2Proof.Machine.execIOp08 rs rt imm s
  | .iOp09 rs rt imm => Sys2Proof.Machine.execIOp09 rs rt imm s
  | .iOp10 rs rt imm => Sys2Proof.Machine.execIOp10 rs rt imm s
  | .iOp11 rs rt imm => Sys2Proof.Machine.execIOp11 rs rt imm s
  | .iOp12 rs rt imm => Sys2Proof.Machine.execIOp12 rs rt imm s
  | .iOp13 rs rt imm => Sys2Proof.Machine.execIOp13 rs rt imm s
  | .iOp14 rs rt imm => Sys2Proof.Machine.execIOp14 rs rt imm s
  | .iOp15 rs rt imm => Sys2Proof.Machine.execIOp15 rs rt imm s
  | .iOp16 rs rt imm => Sys2Proof.Machine.execIOp16 rs rt imm s
  | .iOp17 rs rt imm => Sys2Proof.Machine.execIOp17 rs rt imm s
  | .iOp18 rs rt imm => Sys2Proof.Machine.execIOp18 rs rt imm s
  | .iOp19 rs rt imm => Sys2Proof.Machine.execIOp19 rs rt imm s
  | .iOp20 rs rt imm => Sys2Proof.Machine.execIOp20 rs rt imm s
  | .iOp21 rs rt imm => Sys2Proof.Machine.execIOp21 rs rt imm s
  | .iOp22 rs rt imm => Sys2Proof.Machine.execIOp22 rs rt imm s
  | .iOp23 rs rt imm => Sys2Proof.Machine.execIOp23 rs rt imm s
  | .iOp24 rs rt imm => Sys2Proof.Machine.execIOp24 rs rt imm s
  | .iOp25 rs rt imm => Sys2Proof.Machine.execIOp25 rs rt imm s
  | .iOp26 rs rt imm => Sys2Proof.Machine.execIOp26 rs rt imm s
  | .iOp27 rs rt imm => Sys2Proof.Machine.execIOp27 rs rt imm s
  | .iOp28 rs rt imm => Sys2Proof.Machine.execIOp28 rs rt imm s
  | .iOp29 rs rt imm => Sys2Proof.Machine.execIOp29 rs rt imm s
  | .iOp30 rs rt imm => Sys2Proof.Machine.execIOp30 rs rt imm s
  | .iOp31 rs rt imm => Sys2Proof.Machine.execIOp31 rs rt imm s
  | .iOp32 rs rt imm => Sys2Proof.Machine.execIOp32 rs rt imm s
  | .iOp33 rs rt imm => Sys2Proof.Machine.execIOp33 rs rt imm s
  | .iOp34 rs rt imm => Sys2Proof.Machine.execIOp34 rs rt imm s
  | .iOp35 rs rt imm => Sys2Proof.Machine.execIOp35 rs rt imm s
  | .iOp36 rs rt imm => Sys2Proof.Machine.execIOp36 rs rt imm s
  | .iOp37 rs rt imm => Sys2Proof.Machine.execIOp37 rs rt imm s
  | .iOp38 rs rt imm => Sys2Proof.Machine.execIOp38 rs rt imm s
  | .iOp39 rs rt imm => Sys2Proof.Machine.execIOp39 rs rt imm s
  | .iOp40 rs rt imm => Sys2Proof.Machine.execIOp40 rs rt imm s
  | .iOp41 rs rt imm => Sys2Proof.Machine.execIOp41 rs rt imm s
  | .iOp42 rs rt imm => Sys2Proof.Machine.execIOp42 rs rt imm s
  | .iOp43 rs rt imm => Sys2Proof.Machine.execIOp43 rs rt imm s
  | .iOp44 rs rt imm => Sys2Proof.Machine.execIOp44 rs rt imm s
  | .iOp45 rs rt imm => Sys2Proof.Machine.execIOp45 rs rt imm s
  | .iOp46 rs rt imm => Sys2Proof.Machine.execIOp46 rs rt imm s
  | .iOp47 rs rt imm => Sys2Proof.Machine.execIOp47 rs rt imm s
  | .iOp48 rs rt imm => Sys2Proof.Machine.execIOp48 rs rt imm s
  | .iOp49 rs rt imm => Sys2Proof.Machine.execIOp49 rs rt imm s
  | .iOp50 rs rt imm => Sys2Proof.Machine.execIOp50 rs rt imm s
  | .iOp51 rs rt imm => Sys2Proof.Machine.execIOp51 rs rt imm s
  | .iOp52 rs rt imm => Sys2Proof.Machine.execIOp52 rs rt imm s
  | .iOp53 rs rt imm => Sys2Proof.Machine.execIOp53 rs rt imm s
  | .iOp54 rs rt imm => Sys2Proof.Machine.execIOp54 rs rt imm s
  | .iOp55 rs rt imm => Sys2Proof.Machine.execIOp55 rs rt imm s
  | .iOp56 rs rt imm => Sys2Proof.Machine.execIOp56 rs rt imm s
  | .iOp57 rs rt imm => Sys2Proof.Machine.execIOp57 rs rt imm s
  | .iOp58 rs rt imm => Sys2Proof.Machine.execIOp58 rs rt imm s
  | .iOp59 rs rt imm => Sys2Proof.Machine.execIOp59 rs rt imm s
  | .iOp60 rs rt imm => Sys2Proof.Machine.execIOp60 rs rt imm s
  | .iOp61 rs rt imm => Sys2Proof.Machine.execIOp61 rs rt imm s
  | .iOp62 rs rt imm => Sys2Proof.Machine.execIOp62 rs rt imm s
  | .iOp63 rs rt imm => Sys2Proof.Machine.execIOp63 rs rt imm s

end Sys2Proof.Machine
end

