-- ==== Sys2Proof/Machine/ParseBits.lean ====
section
/-! DEFINITION. PARSE_BITS, the host's string boundary (spec/42_decode.md R70–R73). -/

namespace Sys2Proof.Machine

/-- The binary digits U+0030 and U+0031, and no other character (R72, D10). -/
def isBinaryDigit (c : Char) : Bool := c = '0' || c = '1'

/-- The index of the first character that is no binary digit, counted from `start` (R73: the lowest). -/
def firstNonBinary (start : Nat) : Str → Option Nat
  | [] => none
  | c :: cs => if isBinaryDigit c then firstNonBinary (start + 1) cs else some start

/-- The number a digit string stands for, `acc` being the digits before it: the leftmost is the most significant
(spec/20_memory.md R30). -/
def binaryValue (acc : Nat) : Str → Nat
  | [] => acc
  | c :: cs => binaryValue (2 * acc + if c = '1' then 1 else 0) cs

/-- PARSE_BITS (R70): the length check first (R71), then the digit check (R72, R73); never padded or truncated. -/
def parseBits (s : Str) : Except MalformedInputError Word :=
  if s.length ≠ 32 then .error (.wrongLength s.length)
  else match firstNonBinary 0 s with
    | some index => .error (.nonBinaryChar index)
    | none => .ok (BitVec.ofNat 32 (binaryValue 0 s))

end Sys2Proof.Machine
end

