-- ==== Sys2Proof/Machine/Resolve.lean ====
section
/-! DEFINITION. RESOLVE, the NameResolver (spec/45_host_render.md R75–R80): a read of the host's tables, deterministic
and without side effects (R75, R88). -/

namespace Sys2Proof.Machine

/-- The name a table's rows give a key, none where no row has it. A table has one value per key (D22); of two rows
with one key the first is read (log 7). -/
def lookupRow {κ : Type} [DecidableEq κ] (key : κ) : List (κ × Str) → Option Str
  | [] => none
  | (k, name) :: rows => if k = key then some name else lookupRow key rows

/-- `Resolve(T, key)`: an unavailable table raises ConfigurationError (R80), an absent key NameNotFound (R79). -/
def resolveIn {κ : Type} [DecidableEq κ] (table : TableId) (t : Table κ) (key : κ) (missing : NameNotFound) :
    Except RenderError Str :=
  match t with
  | .unavailable f => .error (.configuration ⟨table, f⟩)
  | .loaded rows =>
    match lookupRow key rows with
    | none => .error (.nameNotFound missing)
    | some name => .ok name

/-- RESOLVE on a query: the register-name query (R76) and the mnemonic query by its key column (R77, D21). The keys
are the fields' bits; their binary spellings `bin5` and `bin6` (R78) stand for them one to one. -/
def resolve (t : HostTables) : Query → Except RenderError Str
  | .register role code => resolveIn .registerTable t.regTable code (.register role code)
  | .opcode key => resolveIn .instructionTable t.mnOpcode key (.opcode key)
  | .functionCode key => resolveIn .instructionTable t.mnFunct key (.functionCode key)

/-- The mnemonic query of a record: an R record by its function code, an I or J record by its opcode, and no other
field (R48, R77). -/
def mnemonicQuery : Record → Query
  | .r _ _ _ _ functionCode => .functionCode functionCode
  | .i opcode _ _ _ => .opcode opcode
  | .j opcode _ => .opcode opcode

/-- The fault of a table, none where it is loaded. -/
def Table.fault? {κ : Type} : Table κ → Option ConfigFault
  | .unavailable f => some f
  | .loaded _ => none

/-- A table has one value per key (D22): no two of its rows share a key. -/
def Table.oneValuePerKey {κ : Type} [DecidableEq κ] : Table κ → Bool
  | .unavailable _ => true
  | .loaded rows => (rows.map Prod.fst).Nodup

/-- A complete table: it is loaded and every key has a name (R76). -/
def Table.complete {n : Nat} : Table (BitVec n) → Bool
  | .unavailable _ => false
  | .loaded rows => (List.range (2 ^ n)).all fun k => (lookupRow (BitVec.ofNat n k) rows).isSome

/-- The host's configuration premise on the FORMAT column: where the column is there, each of its rows agrees with the
hardwired rule (R103, D24). Nothing in the model checks it: "Neither the block nor RENDER checks this." -/
def HostTables.formatColumnAgrees (t : HostTables) : Bool :=
  match t.formatColumn with
  | none => true
  | some rows => rows.all fun row => classify (row.1 ++ 0#26) = row.2

end Sys2Proof.Machine
end

