-- ==== Sys2Proof/Machine/Text.lean ====
section
/-! DEFINITION. The spellings RENDER uses (spec/45_host_render.md R78, R86; the numeric ones are the spec's own choice
D15). -/

namespace Sys2Proof.Machine

/-- `v` in binary, one character a bit, most significant first, padded with `0` to the width (R78). -/
def bin {n : Nat} (v : BitVec n) : Str :=
  (List.range n).map fun k => if v.getLsbD (n - 1 - k) then '1' else '0'

/-- `bin5(c)` (R78). -/
def bin5 (c : BitVec 5) : Str := bin c

/-- `bin6(k)` (R78). -/
def bin6 (k : BitVec 6) : Str := bin k

/-- The character of a decimal digit. -/
def digitChar (d : Nat) : Char := Char.ofNat ('0'.toNat + d)

/-- The decimal digits of `n` before `acc`; `fuel` more than `n` suffices. -/
def decDigits : (fuel n : Nat) → Str → Str
  | 0, _, acc => acc
  | fuel + 1, n, acc =>
    let acc' := digitChar (n % 10) :: acc
    if n / 10 = 0 then acc' else decDigits fuel (n / 10) acc'

/-- `dec(n)`: the unsigned decimal numeral without leading zeros, `"0"` for zero (R86). -/
def dec (n : Nat) : Str := decDigits (n + 1) n []

/-- `sdec(n)`: `dec(n)`, or `-` and `dec(−n)` for a negative number; no `+` (R86). -/
def sdec (n : Int) : Str :=
  if n < 0 then '-' :: dec n.natAbs else dec n.natAbs

end Sys2Proof.Machine
end

