-- ==== Sys2Proof/Machine/Render.lean ====
section
/-! DEFINITION. RENDER, the Formatter (spec/45_host_render.md R81–R88). -/

namespace Sys2Proof.Machine

/-- DETAIL_NAME_PREFIX before the names of the detail lines (D15): nothing by default. -/
def DetailNamePrefix.text : DetailNamePrefix → Str
  | .bare => []
  | .dollar => ['$']

/-- The text of RENDER_R_REG (R82): operands rd, rs, rt, each `$` and the name; detail lines rs, rt, rd, each with the
bare name but for the prefix `p` (R86). -/
def textRReg (p mn ns nt nd : Str) (rs rt rd : RegCode) : Str :=
  "(R-Format) ".toList ++ mn ++ " $".toList ++ nd ++ ", $".toList ++ ns ++ ", $".toList ++ nt ++ "\n".toList
    ++ "rs: ".toList ++ bin5 rs ++ " is ".toList ++ p ++ ns ++ "\n".toList
    ++ "rt: ".toList ++ bin5 rt ++ " is ".toList ++ p ++ nt ++ "\n".toList
    ++ "rd: ".toList ++ bin5 rd ++ " is ".toList ++ p ++ nd

/-- The text of RENDER_R_SHIFT (R83): operands rd, rt and the shift amount; detail lines rt, rd. -/
def textRShift (p mn nt nd : Str) (rt rd : RegCode) (shiftAmount : ShiftAmount) : Str :=
  "(R-Format) ".toList ++ mn ++ " $".toList ++ nd ++ ", $".toList ++ nt ++ ", ".toList ++ dec shiftAmount.toNat
    ++ "\n".toList
    ++ "rt: ".toList ++ bin5 rt ++ " is ".toList ++ p ++ nt ++ "\n".toList
    ++ "rd: ".toList ++ bin5 rd ++ " is ".toList ++ p ++ nd

/-- The text of RENDER_I (R84): operands rt, rs and the signed immediate, for every I-format opcode; detail lines rt,
rs. -/
def textI (p mn ns nt : Str) (rs rt : RegCode) (immediate : Immediate) : Str :=
  "(I-Format) ".toList ++ mn ++ " $".toList ++ nt ++ ", $".toList ++ ns ++ ", ".toList
    ++ sdec (immediateSigned immediate) ++ "\n".toList
    ++ "rt: ".toList ++ bin5 rt ++ " is ".toList ++ p ++ nt ++ "\n".toList
    ++ "rs: ".toList ++ bin5 rs ++ " is ".toList ++ p ++ ns

/-- The text of RENDER_J (R85). -/
def textJ (mn : Str) (address : Address) : Str :=
  "(J-Format) ".toList ++ mn ++ " ".toList ++ dec address.toNat
    ++ "\n".toList ++ "Jump to address ".toList ++ dec (address.toNat * 4)

/-- The fault of the instruction table in the column a record's mnemonic is looked up by (R77). -/
def instructionFault? (t : HostTables) : Record → Option ConfigFault
  | .r _ _ _ _ _ => t.mnFunct.fault?
  | .i _ _ _ _ => t.mnOpcode.fault?
  | .j _ _ => t.mnOpcode.fault?

/-- The fault of the register table where the record's template resolves a register: J resolves none and does not
need it (R85, R87, D14). -/
def registerFault? (t : HostTables) : Record → Option ConfigFault
  | .r _ _ _ _ _ => t.regTable.fault?
  | .i _ _ _ _ => t.regTable.fault?
  | .j _ _ => none

/-- R87 step 1: an unavailable table that the template needs raises ConfigurationError before any lookup. Which of two
is a free value (log 8). -/
def configurationFault? (t : HostTables) (r : Record) : Option ConfigurationError :=
  match instructionFault? t r, registerFault? t r with
  | none, none => none
  | some f, none => some ⟨.instructionTable, f⟩
  | none, some g => some ⟨.registerTable, g⟩
  | some f, some g =>
    some (if Config.instructionTableReportedFirst f g then ⟨.instructionTable, f⟩ else ⟨.registerTable, g⟩)

/-- R87 steps 2 and 3: the mnemonic, then the registers in the order of the template's first line, with the first
error ending it; then the template that R81 picks. R_SHIFT neither shows nor resolves `rs` (R83). -/
def renderResolved (t : HostTables) (r : Record) : Except RenderError Str := do
  let mn ← resolve t (mnemonicQuery r)
  match r with
  | .r rs rt rd shiftAmount _ =>
    if shiftAmount = 0#5 then
      let nd ← resolve t (.register .rd rd)
      let ns ← resolve t (.register .rs rs)
      let nt ← resolve t (.register .rt rt)
      return textRReg t.detailNamePrefix.text mn ns nt nd rs rt rd
    else
      let nd ← resolve t (.register .rd rd)
      let nt ← resolve t (.register .rt rt)
      return textRShift t.detailNamePrefix.text mn nt nd rt rd shiftAmount
  | .i _ rs rt immediate =>
    let nt ← resolve t (.register .rt rt)
    let ns ← resolve t (.register .rs rs)
    return textI t.detailNamePrefix.text mn ns nt rs rt immediate
  | .j _ address => return textJ mn address

/-- RENDER (R81, R87): all of the text or one error, no partial output (R79, R92). -/
def render (t : HostTables) (r : Record) : Except RenderError Str :=
  match configurationFault? t r with
  | some e => .error (.configuration e)
  | none => renderResolved t r

end Sys2Proof.Machine
end

