-- ==== Sys2Proof/Machine/HostTurn.lean ====
section
/-! DEFINITION. The host's turn: one action of the host (spec/00_scope.md R13), up to the point where the block
evaluates a Word. -/

namespace Sys2Proof.Machine

/-- What a host's turn comes to. -/
inductive Turn where
  | evaluate (w : Word) (s : State)   -- the block evaluates `w`, from `s`
  | done (s : State)                  -- the host's own operation ended; the block's ports are as they were
  | stuck (f : Fault)                 -- no output exists to read (U8)
  deriving DecidableEq, Repr

/-- The host drives a Word, and the block evaluates it (R13, R17). -/
def presentWord (w : Word) (s : State) : Turn := .evaluate w (s.driveWord w)

/-- PARSE_BITS, then the block's DECODE, then `next` on its outputs: the first error ends it and the block is not
evaluated (spec/42_decode.md R74; spec/60_exceptions.md R93). -/
def parseThen (bits : Str) (next : HostAction) (s : State) : Turn :=
  match parseBits bits with
  | .error e => .done (s.fail (.malformedInput e))
  | .ok w => presentWord w (s.pushAction next)

/-- A host operation ends with what it returns, or with its error (R92). -/
def returnOrFail (ok : Str → HostResult) (r : Except RenderError Str) (s : State) : State :=
  match r with
  | .ok t => s.returnResult (ok t)
  | .error e => s.fail (.render e)

/-- A read of the outputs: there is none to read before a Word was driven (spec/10_state.md R26, U8). -/
def readOutputs (use : Outputs → State) (s : State) : Turn :=
  match s.outputs with
  | none => .stuck .outputsUndefined
  | some o => .done (use o)

/-- One action of the host, taken from the state without that action. -/
def hostAct (a : HostAction) (s : State) : Turn :=
  match a with
  | .provideTables t => .done (s.provideTables t)
  | .present w => presentWord w s
  | .parseBits bits =>
    match parseBits bits with
    | .error e => .done (s.fail (.malformedInput e))
    | .ok w => .done (s.returnResult (.word w))
  | .decodeBits bits => parseThen bits .readRecord s
  | .display bits => parseThen bits .render s
  | .readPorts => readOutputs (fun o => s.returnResult (.ports o)) s
  | .readRecord => readOutputs (fun o => s.returnResult (.record o.record)) s
  | .resolve q => .done (returnOrFail .name (resolve s.tables q) s)
  | .render => readOutputs (fun o => returnOrFail .text (render s.tables o.record) s) s

/-- The turn at a state: the host's oldest action. With none, the Word on the port stays driven and the block's
outputs are its function still, so that Word is evaluated again (R26, R108; log 4); with no Word ever driven there is
nothing to evaluate (R26, U8). -/
def hostTurn (s : State) : Turn :=
  match s.actions with
  | a :: rest => hostAct a { s with actions := rest }
  | [] =>
    match s.word with
    | none => .stuck .noWordDriven
    | some w => .evaluate w s

/-- `s` with the host's next action presenting the Word that `nbits` bits of the number `w` stand for; no Word has
more than 32 bits, and then `s` itself (log 15). -/
def presentNext (s : State) (nbits w : Nat) : State :=
  match wordOfBits nbits w with
  | some word => s.pushAction (.present word)
  | none => s

end Sys2Proof.Machine
end

