-- ==== Sys2Proof/Machine/Step.lean ====
section
/-! DEFINITION. One step: the host's turn, and where it presents a Word, one evaluation of the block on the
instruction that Word decodes to (spec/10_state.md R15: one evaluation is one step). -/

namespace Sys2Proof.Machine

def step (s : State) : Host.Outcome State Fault Refusal :=
  match hostTurn s with
  | .evaluate w s' => exec (decode w) s'
  | .done s' => .next s'
  | .stuck f => .fault f

/-- The instruction whose bits are `w` placed where the step takes its next Word: at the front of the host's actions
(log 3). -/
def State.withFetchWord (s : State) (nbits w : Nat) : State := presentNext s nbits w

end Sys2Proof.Machine
end

