-- ==== Sys2Proof/Safety.lean ====
section
/-! DEFINITION. What claims mean by a consistent state, by a run that goes on and by an action that returns an error. -/

namespace Sys2Proof.Machine

/-- The ports are consistent: what is on the output ports is the spec's function of the Word on the input port, and
there is no output before a Word is driven (spec/10_state.md R16, R26). -/
def State.portsConsistent (s : State) : Prop := s.outputs = s.word.map outputsOf

/-- A Word has been driven (R26). -/
def State.driven (s : State) : Prop := s.word.isSome = true

/-- The step from `s` answers a next state: no fault, no refusal. -/
def Safe (s : State) : Prop := ∃ t, step s = .next t

/-- `k` steps from `s` all answer a next state. -/
def SafeFor : Nat → State → Prop
  | 0, _ => True
  | k + 1, s => ∃ t, step s = .next t ∧ SafeFor k t

/-- The cause of each error that an action of the host returns from `s` (spec/60_exceptions.md R90, R91): PARSE_BITS
refuses the string; or RESOLVE, or RENDER of the record on the ports, fails. The other actions return none (R89). -/
def ReturnsError (s : State) (a : HostAction) (e : HostError) : Prop :=
  match a with
  | .parseBits bits => ∃ m, parseBits bits = .error m ∧ e = .malformedInput m
  | .decodeBits bits => ∃ m, parseBits bits = .error m ∧ e = .malformedInput m
  | .display bits => ∃ m, parseBits bits = .error m ∧ e = .malformedInput m
  | .resolve q => ∃ r, resolve s.tables q = .error r ∧ e = .render r
  | .render => ∃ o r, s.outputs = some o ∧ render s.tables o.record = .error r ∧ e = .render r
  | .provideTables _ => False
  | .present _ => False
  | .readPorts => False
  | .readRecord => False

end Sys2Proof.Machine
end

