-- ==== Sys2Proof/Certificates/Slice0/Obligations.lean ====
section
/-! DEFINITION. The statements for the provers. Each is a rule of the spec, or rests on the sections its entry of
OBLIGATIONS.json cites. Where a clause is a choice of the spec's own (D<n>) or of the model (log <n>), the docstring
says so. `w.extractLsb hi lo` is the spec's slice `w[hi:lo]` (R10). -/

open Sys2Proof Sys2Proof.Machine

/-! ## The step, and what runs in it -/

/-- A STEP RUNS THE DECODED INSTRUCTION. The Word that the host presents, alone or through a string that parses to it,
is driven on the input port and `exec` of the instruction it decodes to is the step, from the state without that
action. With no action left, the Word still on the port is evaluated again (the model's choices, logs 4 and 5). -/
def Obligations.StepRunsTheDecodedInstruction : Prop :=
  ∀ (s : State) (w : Word) (rest : List HostAction),
    (s.actions = .present w :: rest →
      step s = exec (decode w) { s with word := some w, actions := rest }) ∧
    (∀ bits, s.actions = .decodeBits bits :: rest → parseBits bits = .ok w →
      step s = exec (decode w) { s with word := some w, actions := .readRecord :: rest }) ∧
    (∀ bits, s.actions = .display bits :: rest → parseBits bits = .ok w →
      step s = exec (decode w) { s with word := some w, actions := .render :: rest }) ∧
    (s.actions = [] → s.word = some w → step s = exec (decode w) s)

/-- The Word placed by `withFetchWord` is the one the very next step runs, and `decodeTableWord` reads the same
instruction from it (the model's choices, logs 3 and 15). -/
def Obligations.PlacedWordRunsInTheNextStep : Prop :=
  ∀ (s : State) (nbits n : Nat), nbits ≤ 32 →
    decodeTableWord nbits n = some (decode (BitVec.ofNat 32 (n % 2 ^ nbits))) ∧
    step (s.withFetchWord nbits n) =
      exec (decode (BitVec.ofNat 32 (n % 2 ^ nbits)))
        { s with word := some (BitVec.ofNat 32 (n % 2 ^ nbits)) }

/-! ## The instructions: what each does, that it completes, and its frame -/

/-- R57, EXTRACT_R. The row R_FORMAT, and no other, runs for a Word with opcode 0. It completes; it drives rs, rt, rd,
shamt and funct with their slices; the record is R with those fields; nothing but the output ports changes. -/
def Obligations.RFormatExtractsItsFields : Prop :=
  ∀ (w : Word) (s : State), w.extractLsb 31 26 = 0#6 →
    decode w = .rFormat (w.extractLsb 25 21) (w.extractLsb 20 16) (w.extractLsb 15 11) (w.extractLsb 10 6)
      (w.extractLsb 5 0) ∧
    ∃ o : Outputs, exec (decode w) s = .next { s with outputs := some o } ∧
      o.rs = w.extractLsb 25 21 ∧ o.rt = w.extractLsb 20 16 ∧ o.rd = w.extractLsb 15 11 ∧
      o.shamt = w.extractLsb 10 6 ∧ o.funct = w.extractLsb 5 0 ∧
      o.record = .r (w.extractLsb 25 21) (w.extractLsb 20 16) (w.extractLsb 15 11) (w.extractLsb 10 6)
        (w.extractLsb 5 0)

/-- R58, EXTRACT_I. Every row I_OPnn: a Word whose opcode is none of 0, 2 and 3 completes; it drives opcode, rs, rt and
imm with their slices; the record is I with those fields, and the immediate's value is the signed reading of its 16
bits; nothing but the output ports changes. -/
def Obligations.IFormatExtractsItsFields : Prop :=
  ∀ (w : Word) (s : State), w.extractLsb 31 26 ≠ 0#6 → w.extractLsb 31 26 ≠ 2#6 → w.extractLsb 31 26 ≠ 3#6 →
    ∃ o : Outputs, exec (decode w) s = .next { s with outputs := some o } ∧
      o.opcode = w.extractLsb 31 26 ∧ o.rs = w.extractLsb 25 21 ∧ o.rt = w.extractLsb 20 16 ∧
      o.imm = w.extractLsb 15 0 ∧
      o.record = .i (w.extractLsb 31 26) (w.extractLsb 25 21) (w.extractLsb 20 16) (w.extractLsb 15 0) ∧
      immediateSigned o.imm = BitVec.toInt (w.extractLsb 15 0)

/-- R59, EXTRACT_J. The rows J_OP02 and J_OP03: a Word whose opcode is 2 or 3 completes; it drives opcode, addr and
jtarget; the address is `w & 0x03FFFFFF`; the byte target is the address with 00 after it; the record is J with those
fields; nothing but the output ports changes. -/
def Obligations.JFormatExtractsItsFields : Prop :=
  ∀ (w : Word) (s : State), w.extractLsb 31 26 = 2#6 ∨ w.extractLsb 31 26 = 3#6 →
    ∃ o : Outputs, exec (decode w) s = .next { s with outputs := some o } ∧
      o.opcode = w.extractLsb 31 26 ∧ o.addr = w.extractLsb 25 0 ∧
      o.addr.setWidth 32 = w &&& 0x03FFFFFF#32 ∧
      o.jtarget = w.extractLsb 25 0 ++ 0#2 ∧
      o.record = .j (w.extractLsb 31 26) (w.extractLsb 25 0)

/-- EVERY INSTRUCTION COMPLETES. For each of the 64 constructors, with every operand, in every state, exec answers the
next state in which the output ports carry the port table's values (spec/10_state.md section 2) of the instruction's
own Word, and everything else is as it was. The port set and the off-variant values are the spec's own choices D2 and
D5. -/
def Obligations.EveryInstructionDrivesThePortsOfItsWord : Prop :=
  ∀ (i : Instr) (s : State), exec i s = .next { s with outputs := some (outputsOf (encode i)) }

/-- The fields of an instruction reach the record unchanged: for each of the 64 constructors, exec completes, and the
record on the ports is the one with the instruction's own fields and its row's opcode. -/
def Obligations.EveryInstructionYieldsItsRecord : Prop :=
  ∀ (i : Instr) (s : State), ∃ t o, exec i s = .next t ∧ t.outputs = some o ∧ o.record = i.record

/-- FRAME, for each of the 64 instructions: an evaluation changes the output ports only. The Word on the input port,
the host's actions, its results and its tables are as before: the block decodes and does not execute (D8). -/
def Obligations.EvaluationChangesOnlyTheOutputPorts : Prop :=
  ∀ (i : Instr) (s t : State), exec i s = .next t →
    t.word = s.word ∧ t.actions = s.actions ∧ t.results = s.results ∧ t.tables = s.tables

/-- The port table (spec/10_state.md section 2): after the evaluation of any Word every field port carries its slice,
whatever the format. The ports outside the format's variant are the spec's own choice D5 (log 10). -/
def Obligations.EveryFieldPortCarriesItsSlice : Prop :=
  ∀ (w : Word) (s : State), ∃ o : Outputs, exec (decode w) s = .next { s with outputs := some o } ∧
    o.opcode = w.extractLsb 31 26 ∧ o.rs = w.extractLsb 25 21 ∧ o.rt = w.extractLsb 20 16 ∧
    o.rd = w.extractLsb 15 11 ∧ o.shamt = w.extractLsb 10 6 ∧ o.funct = w.extractLsb 5 0 ∧
    o.imm = w.extractLsb 15 0 ∧ o.addr = w.extractLsb 25 0 ∧ o.jtarget = w.extractLsb 25 0 ++ 0#2

/-- The machine that runs instructions computes the spec's word-level DECODE (R67): for every Word, exec of the decoded
instruction drives the ports of CLASSIFY and EXTRACT, and the record they form is `extract(w, classify(w))`. That the
field ports outside the variant carry their slices too is no part of R67: it is the spec's own choice D5 (log 10). -/
def Obligations.RunningAnInstructionRefinesDecode : Prop :=
  ∀ (w : Word) (s : State),
    exec (decode w) s = .next { s with outputs := some (outputsOf w) } ∧
    (outputsOf w).tag = classify w ∧
    (outputsOf w).record = extract w (classify w) ∧ (decode w).record = extract w (classify w)

/-! ## CLASSIFY and the encodings -/

/-- R53. Each opcode value goes to exactly one tag; R exactly for opcode 0; J exactly for 2 and 3; I for every other;
the tag depends on the opcode bits alone. -/
def Obligations.ClassifySendsEachOpcodeToOneTag : Prop :=
  (∀ w : Word, w.extractLsb 31 26 = 0#6 ↔ classify w = .R) ∧
  (∀ w : Word, (w.extractLsb 31 26 = 2#6 ∨ w.extractLsb 31 26 = 3#6) ↔ classify w = .J) ∧
  (∀ w : Word, (w.extractLsb 31 26 ≠ 0#6 ∧ w.extractLsb 31 26 ≠ 2#6 ∧ w.extractLsb 31 26 ≠ 3#6) ↔
    classify w = .I) ∧
  (∀ v w : Word, v.extractLsb 31 26 = w.extractLsb 31 26 → classify v = classify w) ∧
  (∀ w : Word, ∃ t : FormatTag, classify w = t ∧ ∀ u : FormatTag, classify w = u → u = t)

/-- R20. Two Words with the same bits 31–26 give records of the same variant, whatever their other 26 bits, and from
any two states. -/
def Obligations.VariantDependsOnTheOpcodeBitsAlone : Prop :=
  ∀ (v w : Word) (s t : State), v.extractLsb 31 26 = w.extractLsb 31 26 →
    ∃ o p : Outputs, exec (decode v) s = .next { s with outputs := some o } ∧
      exec (decode w) t = .next { t with outputs := some p } ∧ variantOf o.record = variantOf p.record

/-- R55. After the evaluation of any Word, the `fmt` port and the variant of the record agree, both from the one tag
that CLASSIFY gives (the codes 00, 01, 10 are the spec's own, D3). -/
def Obligations.FmtPortAgreesWithTheVariant : Prop :=
  ∀ (w : Word) (s : State), ∃ o : Outputs, exec (decode w) s = .next { s with outputs := some o } ∧
    o.tag = classify w ∧
    (o.fmt = 0b00#2 ↔ variantOf o.record = .R) ∧ (o.fmt = 0b01#2 ↔ variantOf o.record = .I) ∧
    (o.fmt = 0b10#2 ↔ variantOf o.record = .J)

/-- The reserved value 11 is never on the `fmt` port, and a consumer's port map reads back exactly the tag that was
driven (the spec's own encoding D3). -/
def Obligations.ReservedFmtIsNeverDriven : Prop :=
  (∀ o : Outputs, o.fmt ≠ 0b11#2 ∧ tagOfFmt o.fmt = some o.tag) ∧ tagOfFmt 0b11#2 = none

/-- Every Word matches exactly one row of the opcode table (mask 0xFC000000, match the opcode in bits 31–26;
spec/30_encoding.md section 3), and the row of the decoded instruction is that one. -/
def Obligations.ExactlyOneTableRowMatchesEachWord : Prop :=
  ∀ w : Word, ∃ k : Opcode,
    (∀ k' : Opcode, w &&& 0xFC000000#32 = k'.setWidth 32 <<< 26 ↔ k' = k) ∧
    (encode (decode w)) &&& 0xFC000000#32 = k.setWidth 32 <<< 26

/-- DECODE AND ENCODE AGREE, from the instruction: every well-formed instruction, with every operand value, is what
its own Word decodes to (the layouts of spec/30_encoding.md section 1). -/
def Obligations.DecodeOfEncodeIsTheInstruction : Prop :=
  ∀ i : Instr, i.wellFormed = true → decode (encode i) = i

/-- DECODE AND ENCODE AGREE, from the Word: no bit of any Word is dropped. -/
def Obligations.EncodeOfDecodeIsTheWord : Prop :=
  ∀ w : Word, encode (decode w) = w

/-- The round-trip law of spec/41_extract.md: the record's variant fields reassemble to the Word bit for bit, so
distinct Words give distinct records (derived there). -/
def Obligations.RecordReassemblesToItsWord : Prop :=
  (∀ w : Word, (extract w (classify w)).reassemble = w) ∧
  (∀ v w : Word, decodeRecord v = decodeRecord w → v = w)

/-- The records DECODE can return are exactly the well-formed ones: those whose opcode is of their own format
(spec/41_extract.md, the operands of EXTRACT_R, EXTRACT_I and EXTRACT_J). -/
def Obligations.DecodeReachesExactlyTheWellFormedRecords : Prop :=
  ∀ r : Record, (∃ w : Word, decodeRecord w = r) ↔ r.wellFormed = true

/-- A few Words written out from the encodings decode to the instructions they stand for: one R_FORMAT, both jumps and
three I rows, the lowest and the highest among them. -/
def Obligations.WrittenOutWordsDecodeAsTheyRead : Prop :=
  decode 0b000000_01001_01010_01000_00000_100000#32 = .rFormat 9#5 10#5 8#5 0#5 32#6 ∧
  decode 0b000001_00000_00000_0000000000000000#32 = .iOp01 0#5 0#5 0#16 ∧
  decode 0b000010_00000000000000000100000000#32 = .jOp02 256#26 ∧
  decode 0b000011_11111111111111111111111111#32 = .jOp03 0x3FFFFFF#26 ∧
  decode 0b001000_00000_01000_1111111111111111#32 = .iOp08 0#5 8#5 0xFFFF#16 ∧
  decode 0b111111_11111_11111_1111111111111111#32 = .iOp63 31#5 31#5 0xFFFF#16

/-! ## Derived values -/

/-- R60. The signed immediate: `uint` when bit 15 is 0, else `uint − 65536`; from −32768 to 32767; the two's-complement
reading; and the `imm` port carries the raw 16 bits. -/
def Obligations.SignedImmediateIsTheTwosComplementReading : Prop :=
  (∀ imm : Immediate,
    (imm.getLsbD 15 = false → immediateSigned imm = (imm.toNat : Int)) ∧
    (imm.getLsbD 15 = true → immediateSigned imm = (imm.toNat : Int) - 65536) ∧
    -32768 ≤ immediateSigned imm ∧ immediateSigned imm ≤ 32767 ∧ immediateSigned imm = imm.toInt) ∧
  (∀ (w : Word) (s : State), ∃ o : Outputs, exec (decode w) s = .next { s with outputs := some o } ∧
    o.imm = w.extractLsb 15 0)

/-- A consumer that widens the immediate to 32 bits with its sign keeps its value (spec/41_extract.md, Derived values;
the block has no such port, the spec's own choice D6). -/
def Obligations.SignExtensionKeepsTheImmediateValue : Prop :=
  ∀ imm : Immediate, (imm.signExtend 32).toInt = immediateSigned imm

/-- The byte jump target, driven for every Word of every format: the address times 4, a multiple of 4, at most
0x0FFFFFFC, with no overflow (the 28-bit port is the spec's own choice D7). -/
def Obligations.ByteTargetIsFourTimesTheAddress : Prop :=
  ∀ (w : Word) (s : State), ∃ o : Outputs, exec (decode w) s = .next { s with outputs := some o } ∧
    o.jtarget.toNat = 4 * (w.toNat % 2 ^ 26) ∧ o.jtarget.toNat % 4 = 0 ∧ o.jtarget.toNat ≤ 0x0FFFFFFC

/-! ## Totality, independence, what the block does not read -/

/-- R68. DECODE on a Word is total and cannot fail: the step of a presented Word completes in every state, returns no
result and no error, and answers the same with any tables, so no name table is consulted. -/
def Obligations.EveryWordDecodesWithoutATable : Prop :=
  ∀ (s : State) (w : Word) (rest : List HostAction), s.actions = .present w :: rest →
    ∃ t, step s = .next t ∧ t.results = s.results ∧ t.tables = s.tables ∧
      ∀ tables : HostTables, step { s with tables := tables } = .next { t with tables := tables }

/-- R27. Decoding Word a and then Word b leaves exactly the state that decoding b alone leaves. -/
def Obligations.SuccessiveEvaluationsAreIndependent : Prop :=
  ∀ (s : State) (a b : Word) (rest : List HostAction), ∃ u t,
    step { s with actions := .present a :: .present b :: rest } = .next u ∧
    step { s with actions := .present b :: rest } = .next t ∧ step u = .next t

/-- The outputs for a Word are the same on every evaluation, whatever came before: from any two states, the first
evaluation after power-up among them (spec/10_state.md section 5, spec/70_reset_and_hazards.md section 1; D19). -/
def Obligations.OutputsDependOnTheWordAlone : Prop :=
  ∀ (s t : State) (w : Word) (rest rest' : List HostAction),
    s.actions = .present w :: rest → t.actions = .present w :: rest' →
    ∃ s' t', step s = .next s' ∧ step t = .next t' ∧ s'.outputs = t'.outputs ∧ s'.word = t'.word ∧
      s'.outputs.isSome = true

/-- The FORMAT attribute of the instruction table is ignored by the block and by RENDER: two states that differ in it
alone step alike and differ in it alone (the hardwired policy is the choice D4; log 11). Making tables available
replaces the column, so it stands apart. -/
def Obligations.FormatColumnIsIgnored : Prop :=
  ∀ (s : State) (column : Option (List (Opcode × FormatTag))),
    (∀ tables rest, s.actions ≠ .provideTables tables :: rest) →
    (∀ t, step s = .next t →
      step { s with tables := { s.tables with formatColumn := column } } =
        .next { t with tables := { t.tables with formatColumn := column } }) ∧
    (∀ f, step s = .fault f → step { s with tables := { s.tables with formatColumn := column } } = .fault f)

/-! ## Reset, the invariant, where the machine stops -/

/-- At power-up there is no Word and no output, and a step stops by name until a Word is driven (the spec's own choice
D19; that the host has nothing to do and no table yet are the model's choices, logs 3 and 6). -/
def Obligations.ResetHasNoOutputAndStops : Prop :=
  State.reset.word = none ∧ State.reset.outputs = none ∧ step State.reset = .fault .noWordDriven

/-- The invariant holds at reset: the ports are consistent. -/
def Obligations.ResetPortsAreConsistent : Prop := State.reset.portsConsistent

/-- THE INVARIANT THAT EVERY STEP KEEPS: at every instant each output port is the spec's function of the Word on the
input port, and there is no output before a Word is driven (spec/10_state.md sections 2 and 5; D2, D5, D19). -/
def Obligations.EveryStepKeepsThePortsConsistent : Prop :=
  ∀ s t : State, s.portsConsistent → step s = .next t → t.portsConsistent

/-- From a consistent state with a Word driven, every number of steps answers a next state: "the block never halts,
loops or waits" and no host operation hangs (spec/70_reset_and_hazards.md section 4). That it steps on with no action
left is the model's choice, log 4. -/
def Obligations.DrivenMachineNeverStops : Prop :=
  ∀ (k : Nat) (s : State), s.portsConsistent → s.driven → SafeFor k s

/-- WHEN A STEP STOPS, in every state: with no Word and nothing to do; or when the host reads outputs that do not
exist. No step is refused, and every other step completes (spec/93_implementation_defined.md U8; D19; log 1). -/
def Obligations.StepStopsOnlyWhereNoOutputExists : Prop :=
  ∀ s : State,
    (step s = .fault .noWordDriven ↔ s.actions = [] ∧ s.word = none) ∧
    (step s = .fault .outputsUndefined ↔ s.outputs = none ∧ ∃ rest,
      s.actions = .readPorts :: rest ∨ s.actions = .readRecord :: rest ∨ s.actions = .render :: rest) ∧
    ((∃ f, step s = .fault f) ∨ ∃ t, step s = .next t)

/-! ## The host: strings -/

/-- R70, PARSE_BITS, whole: the length check; then the lowest character that is no binary digit; else the Word, the
leftmost character being bit 31. The clauses exclude each other and leave no string out. That `_` and space are no
digits, and which error comes first, are the spec's own choices D10. -/
def Obligations.ParseBitsChecksThenReadsTheDigits : Prop :=
  ∀ s : Str,
    (s.length ≠ 32 → parseBits s = .error (.wrongLength s.length)) ∧
    (∀ (i : Nat) (c : Char), s.length = 32 → s[i]? = some c → c ≠ '0' → c ≠ '1' →
      (∀ j, j < i → s[j]? = some '0' ∨ s[j]? = some '1') → parseBits s = .error (.nonBinaryChar i)) ∧
    (s.length = 32 → (∀ c, c ∈ s → c = '0' ∨ c = '1') →
      ∃ w, parseBits s = .ok w ∧
        w.toNat = ∑ i ∈ Finset.range 32, (if s[i]? = some '1' then 1 else 0) * 2 ^ (31 - i))

/-- PARSE_BITS as a step (spec/42_decode.md section 2): it returns its Word or its error, and the block is not
evaluated: a Word is parsed, not driven (log 5). -/
def Obligations.ParseBitsReturnsItsWordOrItsError : Prop :=
  ∀ (s : State) (bits : Str) (rest : List HostAction), s.actions = .parseBits bits :: rest →
    (∀ w, parseBits bits = .ok w →
      step s = .next { s with actions := rest, results := s.results ++ [.word w] }) ∧
    (∀ e, parseBits bits = .error e →
      step s = .next { s with actions := rest, results := s.results ++ [.failed (.malformedInput e)] })

/-- Every Word is read back from its own 32 characters, most significant bit first, so no Word is out of PARSE_BITS's
reach (spec/20_memory.md, the bit order of the host's input string, derived there from Scenario 2). -/
def Obligations.ParseBitsReadsBackEveryWord : Prop :=
  ∀ w : Word, parseBits (bin w) = .ok w

/-- R71. A string whose length is not 32 is refused wherever the host uses one: the step returns the error with the
length found, and no Word, and the block is not evaluated. -/
def Obligations.WrongLengthIsRefused : Prop :=
  ∀ (s : State) (bits : Str) (rest : List HostAction), bits.length ≠ 32 →
    (s.actions = .parseBits bits :: rest ∨ s.actions = .decodeBits bits :: rest ∨
      s.actions = .display bits :: rest) →
    step s = .next { s with
      actions := rest
      results := s.results ++ [.failed (.malformedInput (.wrongLength bits.length))] }

/-- The host's whole decode of a string (R74): PARSE_BITS, then the block's DECODE; the first error ends it and is a
malformed-input error; else the decoded record is returned. That this takes two steps, one that evaluates and one that
reads the outputs, and that a malformed string ends in one, is the model's choice (log 5). -/
def Obligations.DecodeOfAStringIsParseThenDecode : Prop :=
  ∀ (s : State) (bits : Str) (rest : List HostAction), s.actions = .decodeBits bits :: rest →
    (∀ e, parseBits bits = .error e →
      step s = .next { s with actions := rest, results := s.results ++ [.failed (.malformedInput e)] }) ∧
    (∀ w, parseBits bits = .ok w → ∃ u, step s = .next u ∧
      step u = .next { s with
        word := some w
        outputs := some (outputsOf w)
        actions := rest
        results := s.results ++ [.record (decodeRecord w)] })

/-- An error leaves nothing behind, for every host action that can return one (the three string actions, RESOLVE and
RENDER: `ReturnsError`): the step returns the error and changes nothing else, and the next Word decodes, in
every port and in the rest of the state, as if the error had not happened (spec/60_exceptions.md, "Trap" entry and P4;
D12, D17; one step an action, log 5). -/
def Obligations.ErrorLeavesNothingBehind : Prop :=
  ∀ (s : State) (a : HostAction) (e : HostError) (rest : List HostAction),
    s.actions = a :: rest → ReturnsError s a e →
    step s = .next { s with actions := rest, results := s.results ++ [.failed e] } ∧
    ∀ (w : Word) (rest' : List HostAction), rest = .present w :: rest' →
      ∃ t, step { s with actions := rest, results := s.results ++ [.failed e] } = .next t ∧
        t.results = s.results ++ [.failed e] ∧
        step { s with actions := rest } = .next { t with results := s.results }

/-- The whole data flow of a string (spec/42_decode.md section 1): a string that parses to `w` is evaluated by the block
and then rendered; after two steps the ports are those of `w` and the host holds the text of its record, or the error
that ended the render. -/
def Obligations.DisplayRunsTheWholePipeline : Prop :=
  ∀ (s : State) (bits : Str) (w : Word) (rest : List HostAction),
    s.actions = .display bits :: rest → parseBits bits = .ok w →
    ∃ u, step s = .next u ∧
      step u = .next { s with
        word := some w
        outputs := some (outputsOf w)
        actions := rest
        results := s.results ++ [match render s.tables (extract w (classify w)) with
          | .ok text => .text text
          | .error e => .failed (.render e)] }

/-! ## The host: names -/

/-- RESOLVE (R75): an unavailable table raises ConfigurationError with the table and its fault; an absent key raises
NameNotFound with the lookup and its key; else the name is returned. The step changes nothing else, and the answer
depends on the table and the key alone. Two clauses are not R75's: the role that a RESOLVE outside RENDER records is the
model's choice (log 19), and the instruction table's split by key column is the spec's own choice D21 (log 22). -/
def Obligations.ResolveReadsTheNamedTable : Prop :=
  ∀ (s : State) (rest : List HostAction),
    (∀ role code, s.actions = .resolve (.register role code) :: rest →
      (∀ f, s.tables.regTable = .unavailable f → step s = .next { s with
        actions := rest, results := s.results ++ [.failed (.render (.configuration ⟨.registerTable, f⟩))] }) ∧
      (∀ rows, s.tables.regTable = .loaded rows → lookupRow code rows = none → step s = .next { s with
        actions := rest, results := s.results ++ [.failed (.render (.nameNotFound (.register role code)))] }) ∧
      (∀ rows name, s.tables.regTable = .loaded rows → lookupRow code rows = some name → step s = .next { s with
        actions := rest, results := s.results ++ [.name name] })) ∧
    (∀ key, s.actions = .resolve (.opcode key) :: rest →
      (∀ f, s.tables.mnOpcode = .unavailable f → step s = .next { s with
        actions := rest, results := s.results ++ [.failed (.render (.configuration ⟨.instructionTable, f⟩))] }) ∧
      (∀ rows, s.tables.mnOpcode = .loaded rows → lookupRow key rows = none → step s = .next { s with
        actions := rest, results := s.results ++ [.failed (.render (.nameNotFound (.opcode key)))] }) ∧
      (∀ rows name, s.tables.mnOpcode = .loaded rows → lookupRow key rows = some name → step s = .next { s with
        actions := rest, results := s.results ++ [.name name] })) ∧
    (∀ key, s.actions = .resolve (.functionCode key) :: rest →
      (∀ f, s.tables.mnFunct = .unavailable f → step s = .next { s with
        actions := rest, results := s.results ++ [.failed (.render (.configuration ⟨.instructionTable, f⟩))] }) ∧
      (∀ rows, s.tables.mnFunct = .loaded rows → lookupRow key rows = none → step s = .next { s with
        actions := rest, results := s.results ++ [.failed (.render (.nameNotFound (.functionCode key)))] }) ∧
      (∀ rows name, s.tables.mnFunct = .loaded rows → lookupRow key rows = some name → step s = .next { s with
        actions := rest, results := s.results ++ [.name name] }))

/-- A lookup finds exactly the rows of the table, for every type of key (the 5-bit register code, the 6-bit opcode and
function code among them): where a table has one value per key (D22, log 7), the key has the name exactly when the row
is there, and no name exactly when no row has the key. -/
def Obligations.LookupFindsExactlyTheMatchingRow : Prop :=
  ∀ (κ : Type) [DecidableEq κ] (rows : List (κ × Str)) (key : κ), (Table.loaded rows).oneValuePerKey = true →
    (∀ name, lookupRow key rows = some name ↔ (key, name) ∈ rows) ∧
    (lookupRow key rows = none ↔ ∀ name, (key, name) ∉ rows)

/-- Given a complete register table every register code resolves, in every role (spec/45_host_render.md section 1; the
name itself is table data). -/
def Obligations.CompleteRegisterTableNamesEveryCode : Prop :=
  ∀ (t : HostTables), t.regTable.complete = true →
    ∀ (role : RegRole) (code : RegCode), ∃ name, resolve t (.register role code) = .ok name

/-- R48. The key that names an instruction: the function code of an R word, the opcode of an I or J word, and no other
field. -/
def Obligations.MnemonicKeyIsFunctOrOpcode : Prop :=
  ∀ w : Word,
    (w.extractLsb 31 26 = 0#6 → mnemonicQuery (decode w).record = .functionCode (w.extractLsb 5 0)) ∧
    (w.extractLsb 31 26 ≠ 0#6 → mnemonicQuery (decode w).record = .opcode (w.extractLsb 31 26))

/-- Key spelling (spec/45_host_render.md section 1): `bin5` is five characters and `bin6` six, each 0 or 1, the most significant first, and read as a
binary numeral each gives its code back, so the spelling stands for the key one to one; code 4 is 00100 and opcode 2 is 000010. -/
def Obligations.BinarySpellingsHaveFixedWidth : Prop :=
  (∀ c : BitVec 5, (bin5 c).length = 5 ∧ (∀ ch, ch ∈ bin5 c → ch = '0' ∨ ch = '1') ∧
    (bin5 c).foldl (fun n ch => 2 * n + (if ch = '1' then 1 else 0)) 0 = c.toNat) ∧
  (∀ k : BitVec 6, (bin6 k).length = 6 ∧ (∀ ch, ch ∈ bin6 k → ch = '0' ∨ ch = '1') ∧
    (bin6 k).foldl (fun n ch => 2 * n + (if ch = '1' then 1 else 0)) 0 = k.toNat) ∧
  bin5 4#5 = "00100".toList ∧ bin6 2#6 = "000010".toList

/-! ## The host: RENDER -/

/-- The render action reads the record on the ports and returns the text or the error, and leaves the block's ports and
the tables as they were (spec/45_host_render.md section 2; spec/60_exceptions.md section 1, D12). -/
def Obligations.RenderReturnsItsTextOrItsError : Prop :=
  ∀ (s : State) (o : Outputs) (rest : List HostAction), s.actions = .render :: rest → s.outputs = some o →
    (∀ text, render s.tables o.record = .ok text →
      step s = .next { s with actions := rest, results := s.results ++ [.text text] }) ∧
    (∀ e, render s.tables o.record = .error e →
      step s = .next { s with actions := rest, results := s.results ++ [.failed (.render e)] })

/-- RENDER_R_REG (R82): an R record with shift amount 0. Its text where the four lookups succeed, and its exceptions:
NameNotFound for funct, rd, rs and rt in the order of R87, the spec's own choice D13 (log 17); ConfigurationError where
a table is unavailable. The prefix `p` of the detail names is empty in R82, which gives the bare names only; "$" is the
other value of the spec's own OPEN parameter of D15 (log 13). -/
def Obligations.RenderRegisterForm : Prop :=
  ∀ (t : HostTables) (rs rt rd : RegCode) (funct : FunctionCode),
    (∀ regs names, t.regTable = .loaded regs → t.mnFunct = .loaded names →
      (∀ mn ns nt nd p, lookupRow funct names = some mn → lookupRow rd regs = some nd →
        lookupRow rs regs = some ns → lookupRow rt regs = some nt →
        (t.detailNamePrefix = .bare ∧ p = [] ∨ t.detailNamePrefix = .dollar ∧ p = ['$']) →
        render t (.r rs rt rd 0#5 funct) = .ok (
          "(R-Format) ".toList ++ mn ++ " $".toList ++ nd ++ ", $".toList ++ ns ++ ", $".toList ++ nt ++ "\n".toList
          ++ "rs: ".toList ++ bin5 rs ++ " is ".toList ++ p ++ ns ++ "\n".toList
          ++ "rt: ".toList ++ bin5 rt ++ " is ".toList ++ p ++ nt ++ "\n".toList
          ++ "rd: ".toList ++ bin5 rd ++ " is ".toList ++ p ++ nd)) ∧
      (lookupRow funct names = none →
        render t (.r rs rt rd 0#5 funct) = .error (.nameNotFound (.functionCode funct))) ∧
      (lookupRow funct names ≠ none → lookupRow rd regs = none →
        render t (.r rs rt rd 0#5 funct) = .error (.nameNotFound (.register .rd rd))) ∧
      (lookupRow funct names ≠ none → lookupRow rd regs ≠ none → lookupRow rs regs = none →
        render t (.r rs rt rd 0#5 funct) = .error (.nameNotFound (.register .rs rs))) ∧
      (lookupRow funct names ≠ none → lookupRow rd regs ≠ none → lookupRow rs regs ≠ none →
        lookupRow rt regs = none →
        render t (.r rs rt rd 0#5 funct) = .error (.nameNotFound (.register .rt rt)))) ∧
    (∀ f, t.mnFunct = .unavailable f ∨ t.regTable = .unavailable f →
      ∃ e, render t (.r rs rt rd 0#5 funct) = .error (.configuration e))

/-- RENDER_R_SHIFT (R83): an R record with a shift amount other than 0, whatever its function code. `rs` is neither
shown nor resolved. Its exceptions are NameNotFound for funct, rd and rt in the order of R87 (D13, log 17), and
ConfigurationError. The prefix `p` is empty in R83; "$" is the other value of the spec's own OPEN parameter of D15
(log 13). -/
def Obligations.RenderShiftForm : Prop :=
  ∀ (t : HostTables) (rs rt rd : RegCode) (shamt : ShiftAmount) (funct : FunctionCode), shamt ≠ 0#5 →
    (∀ regs names, t.regTable = .loaded regs → t.mnFunct = .loaded names →
      (∀ mn nt nd p, lookupRow funct names = some mn → lookupRow rd regs = some nd →
        lookupRow rt regs = some nt →
        (t.detailNamePrefix = .bare ∧ p = [] ∨ t.detailNamePrefix = .dollar ∧ p = ['$']) →
        render t (.r rs rt rd shamt funct) = .ok (
          "(R-Format) ".toList ++ mn ++ " $".toList ++ nd ++ ", $".toList ++ nt ++ ", ".toList ++ dec shamt.toNat ++ "\n".toList
          ++ "rt: ".toList ++ bin5 rt ++ " is ".toList ++ p ++ nt ++ "\n".toList
          ++ "rd: ".toList ++ bin5 rd ++ " is ".toList ++ p ++ nd)) ∧
      (lookupRow funct names = none →
        render t (.r rs rt rd shamt funct) = .error (.nameNotFound (.functionCode funct))) ∧
      (lookupRow funct names ≠ none → lookupRow rd regs = none →
        render t (.r rs rt rd shamt funct) = .error (.nameNotFound (.register .rd rd))) ∧
      (lookupRow funct names ≠ none → lookupRow rd regs ≠ none → lookupRow rt regs = none →
        render t (.r rs rt rd shamt funct) = .error (.nameNotFound (.register .rt rt)))) ∧
    (∀ f, t.mnFunct = .unavailable f ∨ t.regTable = .unavailable f →
      ∃ e, render t (.r rs rt rd shamt funct) = .error (.configuration e)) ∧
    (∀ rs' : RegCode, render t (.r rs' rt rd shamt funct) = render t (.r rs rt rd shamt funct))

/-- RENDER_I (R84): every I record, with one operand layout for every opcode. Its exceptions are NameNotFound for the
opcode, rt and rs in the order of R87 (D13, log 17), and ConfigurationError. The prefix `p` is empty in R84; "$" is the
other value of the spec's own OPEN parameter of D15 (log 13). -/
def Obligations.RenderImmediateForm : Prop :=
  ∀ (t : HostTables) (opcode : Opcode) (rs rt : RegCode) (imm : Immediate),
    (∀ regs names, t.regTable = .loaded regs → t.mnOpcode = .loaded names →
      (∀ mn ns nt p, lookupRow opcode names = some mn → lookupRow rt regs = some nt → lookupRow rs regs = some ns →
        (t.detailNamePrefix = .bare ∧ p = [] ∨ t.detailNamePrefix = .dollar ∧ p = ['$']) →
        render t (.i opcode rs rt imm) = .ok (
          "(I-Format) ".toList ++ mn ++ " $".toList ++ nt ++ ", $".toList ++ ns ++ ", ".toList ++ sdec imm.toInt ++ "\n".toList
          ++ "rt: ".toList ++ bin5 rt ++ " is ".toList ++ p ++ nt ++ "\n".toList
          ++ "rs: ".toList ++ bin5 rs ++ " is ".toList ++ p ++ ns)) ∧
      (lookupRow opcode names = none →
        render t (.i opcode rs rt imm) = .error (.nameNotFound (.opcode opcode))) ∧
      (lookupRow opcode names ≠ none → lookupRow rt regs = none →
        render t (.i opcode rs rt imm) = .error (.nameNotFound (.register .rt rt))) ∧
      (lookupRow opcode names ≠ none → lookupRow rt regs ≠ none → lookupRow rs regs = none →
        render t (.i opcode rs rt imm) = .error (.nameNotFound (.register .rs rs)))) ∧
    (∀ f, t.mnOpcode = .unavailable f ∨ t.regTable = .unavailable f →
      ∃ e, render t (.i opcode rs rt imm) = .error (.configuration e))

/-- R85, RENDER_J: every J record; no register is resolved, so the register table does not matter. `address*4` is the
byte target. Its exceptions are ConfigurationError for `MnOpcode` and NameNotFound for the opcode. -/
def Obligations.RenderJumpForm : Prop :=
  ∀ (t : HostTables) (opcode : Opcode) (addr : Address),
    (∀ names mn, t.mnOpcode = .loaded names → lookupRow opcode names = some mn →
      render t (.j opcode addr) = .ok (
        "(J-Format) ".toList ++ mn ++ " ".toList ++ dec addr.toNat
        ++ "\n".toList ++ "Jump to address ".toList ++ dec (addr.toNat * 4))) ∧
    (jumpTarget addr).toNat = addr.toNat * 4 ∧
    (∀ names, t.mnOpcode = .loaded names → lookupRow opcode names = none →
      render t (.j opcode addr) = .error (.nameNotFound (.opcode opcode))) ∧
    (∀ f, t.mnOpcode = .unavailable f →
      render t (.j opcode addr) = .error (.configuration ⟨.instructionTable, f⟩)) ∧
    (∀ regTable, render { t with regTable := regTable } (.j opcode addr) = render t (.j opcode addr))

/-- Configuration comes first (the spec's own order D13): where a table that the template needs is unavailable, RENDER
reports that table's fault whatever the names; where both are, it reports one of the two, and which is a free value
(log 8). -/
def Obligations.ConfigurationErrorComesFirst : Prop :=
  ∀ (t : HostTables) (rs rt rd : RegCode) (shamt : ShiftAmount) (funct : FunctionCode) (opcode : Opcode)
    (imm : Immediate),
    (∀ f regs, t.mnFunct = .unavailable f → t.regTable = .loaded regs →
      render t (.r rs rt rd shamt funct) = .error (.configuration ⟨.instructionTable, f⟩)) ∧
    (∀ g names, t.regTable = .unavailable g → t.mnFunct = .loaded names →
      render t (.r rs rt rd shamt funct) = .error (.configuration ⟨.registerTable, g⟩)) ∧
    (∀ f regs, t.mnOpcode = .unavailable f → t.regTable = .loaded regs →
      render t (.i opcode rs rt imm) = .error (.configuration ⟨.instructionTable, f⟩)) ∧
    (∀ g names, t.regTable = .unavailable g → t.mnOpcode = .loaded names →
      render t (.i opcode rs rt imm) = .error (.configuration ⟨.registerTable, g⟩)) ∧
    (∀ f g, t.mnFunct = .unavailable f → t.regTable = .unavailable g →
      render t (.r rs rt rd shamt funct) = .error (.configuration ⟨.instructionTable, f⟩) ∨
      render t (.r rs rt rd shamt funct) = .error (.configuration ⟨.registerTable, g⟩)) ∧
    (∀ f g, t.mnOpcode = .unavailable f → t.regTable = .unavailable g →
      render t (.i opcode rs rt imm) = .error (.configuration ⟨.instructionTable, f⟩) ∨
      render t (.i opcode rs rt imm) = .error (.configuration ⟨.registerTable, g⟩))

/-- The decimal spellings (the spec's own, D15): `dec n` is digits only, reads back as `n`, and has no leading zero but
for `0` itself; `sdec` puts `-` before the numeral of a negative number and nothing before another. -/
def Obligations.DecimalSpellingsReadBack : Prop :=
  (∀ n : Nat, (∀ c, c ∈ dec n → '0' ≤ c ∧ c ≤ '9') ∧
    (dec n).foldl (fun a c => 10 * a + (c.toNat - '0'.toNat)) 0 = n ∧
    ((dec n).head? = some '0' → n = 0) ∧ dec 0 = ['0']) ∧
  (∀ n : Nat, sdec (n : Int) = dec n ∧ (n ≠ 0 → sdec (-(n : Int)) = '-' :: dec n))

/-- The numeric error codes (the spec's own, D11), one for each of the seven causes. -/
def Obligations.ErrorCodesAreOneToSeven : Prop :=
  ∀ (n : Nat) (op : Opcode) (fn : FunctionCode) (role : RegRole) (code : RegCode) (table : TableId) (column : Str),
    HostError.code (.malformedInput (.wrongLength n)) = 1 ∧
    HostError.code (.malformedInput (.nonBinaryChar n)) = 2 ∧
    HostError.code (.render (.nameNotFound (.opcode op))) = 3 ∧
    HostError.code (.render (.nameNotFound (.functionCode fn))) = 4 ∧
    HostError.code (.render (.nameNotFound (.register role code))) = 5 ∧
    HostError.code (.render (.configuration ⟨table, .tableMissing⟩)) = 6 ∧
    HostError.code (.render (.configuration ⟨table, .columnMissing column⟩)) = 7

/-! ## The host: frames -/

/-- FRAME of the host's own operations: PARSE_BITS, a read of the outputs, RESOLVE and RENDER leave the block's ports
and the tables as they were, and return exactly one result (log 5). -/
def Obligations.HostOperationsLeaveTheBlockAlone : Prop :=
  ∀ (s t : State) (a : HostAction) (rest : List HostAction), s.actions = a :: rest → step s = .next t →
    ((∃ bits, a = .parseBits bits) ∨ a = .readPorts ∨ a = .readRecord ∨ (∃ q, a = .resolve q) ∨ a = .render) →
    t.word = s.word ∧ t.outputs = s.outputs ∧ t.tables = s.tables ∧ t.actions = rest ∧
      ∃ r, t.results = s.results ++ [r]

/-- Reading the outputs gives every port, and the record they form, whatever the format (spec/10_state.md section 2;
D5). -/
def Obligations.ReadsReturnThePortsAndTheRecord : Prop :=
  ∀ (s : State) (o : Outputs) (rest : List HostAction), s.outputs = some o →
    (s.actions = .readPorts :: rest →
      step s = .next { s with actions := rest, results := s.results ++ [.ports o] }) ∧
    (s.actions = .readRecord :: rest →
      step s = .next { s with actions := rest, results := s.results ++ [.record o.record] })

/-- Only making them available changes the tables, and no result is ever taken back: a step returns at most one more
(spec/20_memory.md, Ordering; spec/70_reset_and_hazards.md section 2, D20). -/
def Obligations.OnlyProvidingChangesTheTables : Prop :=
  ∀ s t : State, step s = .next t →
    ((∀ tables rest, s.actions ≠ .provideTables tables :: rest) → t.tables = s.tables) ∧
    (∀ tables rest, s.actions = .provideTables tables :: rest → t = { s with actions := rest, tables := tables }) ∧
    (∃ more, t.results = s.results ++ more ∧ more.length ≤ 1)

/-- A step returns an error exactly where the host operation it runs has that error's own cause: a malformed string, or
a RESOLVE or RENDER that fails. So presenting a Word, evaluating one, reading the outputs and providing tables return
none (spec/60_exceptions.md section 1, the block raises no exception and the error taxonomy; one step an action,
log 5). -/
def Obligations.OnlyFailingHostOperationsReturnErrors : Prop :=
  ∀ (s t : State) (e : HostError), step s = .next t →
    (t.results = s.results ++ [.failed e] ↔ ∃ a rest, s.actions = a :: rest ∧ ReturnsError s a e)
end

