-- ==== Sys2Proof/Laws/Bits.lean ====
section
/-! SUPPORT. Slices and concatenations of bit vectors: what decoding, encoding and the port table rest on. -/

namespace Sys2Proof.Laws

/-- Two neighbouring slices joined are one slice. -/
theorem slice_append_slice {m : Nat} (w : BitVec m) (lo a b : Nat) :
    w.extractLsb' (lo + b) a ++ w.extractLsb' lo b = w.extractLsb' lo (a + b) := by
  apply BitVec.eq_of_getLsbD_eq
  intro i hi
  simp only [BitVec.getLsbD_append, BitVec.getLsbD_extractLsb']
  split
  · simp [*]
  · have : i - b < a := by omega
    simp [this, hi]; congr 1; omega

/-- A slice above the lower part of a concatenation is a slice of the upper part. -/
theorem slice_append_high {a n : Nat} (x : BitVec a) (y : BitVec n) (k len : Nat) :
    (x ++ y).extractLsb' (n + k) len = x.extractLsb' k len := by
  apply BitVec.eq_of_getLsbD_eq
  intro i hi
  have : ¬ (n + k + i < n) := by omega
  simp [BitVec.getLsbD_append, this]; rw [show n + k + i - n = k + i by omega]

/-- A slice within the lower part of a concatenation is a slice of that part. -/
theorem slice_append_low {a n : Nat} (x : BitVec a) (y : BitVec n) (lo len : Nat) (h : lo + len ≤ n) :
    (x ++ y).extractLsb' lo len = y.extractLsb' lo len := by
  apply BitVec.eq_of_getLsbD_eq
  intro i hi
  have : lo + i < n := by omega
  simp [BitVec.getLsbD_append, this]

/-- The slice of all bits is the vector. -/
theorem slice_all {n : Nat} (x : BitVec n) : x.extractLsb' 0 n = x := by
  apply BitVec.eq_of_getLsbD_eq
  intro i hi
  simp

/-- A slice of a slice. -/
theorem slice_slice {m : Nat} (w : BitVec m) (lo k len n : Nat) (h : k + len ≤ n) :
    (w.extractLsb' lo n).extractLsb' k len = w.extractLsb' (lo + k) len := by
  apply BitVec.eq_of_getLsbD_eq
  intro i hi
  have : k + i < n := by omega
  simp [this, Nat.add_assoc]

end Sys2Proof.Laws
end

