-- ==== Sys2Proof/Laws/State.lean ====
section
/-! SUPPORT. The field lemmas of the state: one per field per update, so that no proof unfolds a record update. -/

namespace Sys2Proof.Machine

section driveOutputs
variable (o : Outputs) (s : State)
@[simp] theorem State.driveOutputs_word : (s.driveOutputs o).word = s.word := rfl
@[simp] theorem State.driveOutputs_outputs : (s.driveOutputs o).outputs = some o := rfl
@[simp] theorem State.driveOutputs_actions : (s.driveOutputs o).actions = s.actions := rfl
@[simp] theorem State.driveOutputs_results : (s.driveOutputs o).results = s.results := rfl
@[simp] theorem State.driveOutputs_tables : (s.driveOutputs o).tables = s.tables := rfl
end driveOutputs

section driveWord
variable (w : Word) (s : State)
@[simp] theorem State.driveWord_word : (s.driveWord w).word = some w := rfl
@[simp] theorem State.driveWord_outputs : (s.driveWord w).outputs = s.outputs := rfl
@[simp] theorem State.driveWord_actions : (s.driveWord w).actions = s.actions := rfl
@[simp] theorem State.driveWord_results : (s.driveWord w).results = s.results := rfl
@[simp] theorem State.driveWord_tables : (s.driveWord w).tables = s.tables := rfl
end driveWord

section pushAction
variable (a : HostAction) (s : State)
@[simp] theorem State.pushAction_word : (s.pushAction a).word = s.word := rfl
@[simp] theorem State.pushAction_outputs : (s.pushAction a).outputs = s.outputs := rfl
@[simp] theorem State.pushAction_actions : (s.pushAction a).actions = a :: s.actions := rfl
@[simp] theorem State.pushAction_results : (s.pushAction a).results = s.results := rfl
@[simp] theorem State.pushAction_tables : (s.pushAction a).tables = s.tables := rfl
end pushAction

section returnResult
variable (r : HostResult) (s : State)
@[simp] theorem State.returnResult_word : (s.returnResult r).word = s.word := rfl
@[simp] theorem State.returnResult_outputs : (s.returnResult r).outputs = s.outputs := rfl
@[simp] theorem State.returnResult_actions : (s.returnResult r).actions = s.actions := rfl
@[simp] theorem State.returnResult_results : (s.returnResult r).results = s.results ++ [r] := rfl
@[simp] theorem State.returnResult_tables : (s.returnResult r).tables = s.tables := rfl
end returnResult

section fail
variable (e : HostError) (s : State)
@[simp] theorem State.fail_word : (s.fail e).word = s.word := rfl
@[simp] theorem State.fail_outputs : (s.fail e).outputs = s.outputs := rfl
@[simp] theorem State.fail_actions : (s.fail e).actions = s.actions := rfl
@[simp] theorem State.fail_results : (s.fail e).results = s.results ++ [.failed e] := rfl
@[simp] theorem State.fail_tables : (s.fail e).tables = s.tables := rfl
end fail

section provideTables
variable (t : HostTables) (s : State)
@[simp] theorem State.provideTables_word : (s.provideTables t).word = s.word := rfl
@[simp] theorem State.provideTables_outputs : (s.provideTables t).outputs = s.outputs := rfl
@[simp] theorem State.provideTables_actions : (s.provideTables t).actions = s.actions := rfl
@[simp] theorem State.provideTables_results : (s.provideTables t).results = s.results := rfl
@[simp] theorem State.provideTables_tables : (s.provideTables t).tables = t := rfl
end provideTables

end Sys2Proof.Machine
end

