-- ==== Sys2Proof/Laws/Block.lean ====
section
/-! SUPPORT. What one evaluation of the block can do, said once: the decoder by its record, and exec by the record of
the instruction. -/

namespace Sys2Proof.Machine

/-- The output ports that a record's fields drive. -/
def outputsOfRecord : Record → Outputs
  | .r rs rt rd shamt funct => outputsR rs rt rd shamt funct
  | .i opcode rs rt imm => outputsI opcode rs rt imm
  | .j opcode addr => outputsJ opcode addr

/-- An evaluation answers a next state, and that state is the old one with the output ports driven. -/
theorem exec_eq_driveOutputs (i : Instr) (s : State) :
    exec i s = .next (s.driveOutputs (outputsOfRecord i.record)) := by
  cases i <;> rfl

/-- The row an opcode selects, by its record: 0 is R, 2 and 3 are J, every other value is I (spec/40_classify.md
R52). -/
theorem instrOfFields_record (op : Opcode) (rs rt rd : RegCode) (shamt : ShiftAmount) (funct : FunctionCode)
    (imm : Immediate) (addr : Address) :
    (instrOfFields op rs rt rd shamt funct imm addr).record =
      if op = 0#6 then .r rs rt rd shamt funct
      else if op = 2#6 ∨ op = 3#6 then .j op addr else .i op rs rt imm := by
  obtain ⟨⟨k, hk⟩⟩ := op
  interval_cases k <;> rfl

/-- The record that the ports of a record form is that record, where its opcode is of its format. -/
theorem outputsOfRecord_record (r : Record) : (outputsOfRecord r).record = r := by
  cases r <;> rfl

end Sys2Proof.Machine
end

