-- ==== Sys2Proof/Laws/Host.lean ====
section
/-! SUPPORT. What a host's turn and a step can do, said once. -/

namespace Sys2Proof.Machine

/-- A string action: a malformed string is returned as its error; another drives its Word with `next` to follow. -/
theorem parseThen_cases (bits : Str) (next : HostAction) (s : State) :
    (∃ e, parseBits bits = .error e ∧ parseThen bits next s = .done (s.fail (.malformedInput e))) ∨
    (∃ w, parseBits bits = .ok w ∧ parseThen bits next s = .evaluate w ((s.pushAction next).driveWord w)) := by
  unfold parseThen
  cases h : parseBits bits with
  | error e => exact .inl ⟨e, rfl, rfl⟩
  | ok w => exact .inr ⟨w, rfl, rfl⟩

/-- A read of the outputs: stuck where there is none, else what `use` makes of them. -/
theorem readOutputs_cases (use : Outputs → State) (s : State) :
    (s.outputs = none ∧ readOutputs use s = .stuck .outputsUndefined) ∨
    (∃ o, s.outputs = some o ∧ readOutputs use s = .done (use o)) := by
  unfold readOutputs
  cases h : s.outputs with
  | none => exact .inl ⟨rfl, rfl⟩
  | some o => exact .inr ⟨o, rfl, rfl⟩

/-- An operation that ends returns exactly one result. -/
theorem returnOrFail_eq (ok : Str → HostResult) (r : Except RenderError Str) (s : State) :
    ∃ x, returnOrFail ok r s = s.returnResult x := by
  cases r with
  | error e => exact ⟨_, rfl⟩
  | ok t => exact ⟨_, rfl⟩

/-- A step on each kind of turn. -/
theorem step_of_evaluate {s s' : State} {w : Word} (h : hostTurn s = .evaluate w s') :
    step s = .next (s'.driveOutputs (outputsOfRecord (decode w).record)) := by
  simp only [step, h, exec_eq_driveOutputs]

theorem step_of_done {s s' : State} (h : hostTurn s = .done s') : step s = .next s' := by
  simp only [step, h]

theorem step_of_stuck {s : State} {f : Fault} (h : hostTurn s = .stuck f) : step s = .fault f := by
  simp only [step, h]

/-- The evaluated Word is the Word on the port. -/
theorem hostTurn_evaluate_word {s s' : State} {w : Word} (h : hostTurn s = .evaluate w s') : s'.word = some w := by
  unfold hostTurn at h
  split at h
  next a rest hs =>
    cases a <;> simp only [hostAct, presentWord, parseThen, readOutputs] at h <;> (try split at h) <;>
      simp_all <;> (obtain ⟨rfl, rfl⟩ := h; rfl)
  next hs => split at h <;> simp_all

/-- Only a made-available action changes the tables, and a turn that ends returns at most one result and leaves the
ports as they were. -/
theorem hostTurn_done_ports {s s' : State} (h : hostTurn s = .done s') :
    s'.word = s.word ∧ s'.outputs = s.outputs := by
  unfold hostTurn at h
  split at h
  next a rest hs =>
    cases a <;> simp only [hostAct, presentWord, parseThen, readOutputs, returnOrFail] at h <;>
      (repeat' split at h) <;> simp_all <;> (subst h; simp)
  next hs => split at h <;> simp_all

end Sys2Proof.Machine
end

