-- ==== Sys2Proof/Laws/PerInstr.lean ====
section
/-! SUPPORT. Statements made per instruction: every constructor's record is one its opcode may have, so the record
names its own format. -/

namespace Sys2Proof.Laws.RecordWellFormed

/-- The record of the instruction carries an opcode of its own format (spec/40_classify.md R52, R55). -/
def Statement (i : Instr) : Prop := i.record.wellFormed = true

theorem rFormat (rs rt rd : RegCode) (shamt : ShiftAmount) (funct : FunctionCode) : Statement (.rFormat rs rt rd shamt funct) := rfl
theorem iOp01 (rs rt : RegCode) (imm : Immediate) : Statement (.iOp01 rs rt imm) := rfl
theorem jOp02 (addr : Address) : Statement (.jOp02 addr) := rfl
theorem jOp03 (addr : Address) : Statement (.jOp03 addr) := rfl
theorem iOp04 (rs rt : RegCode) (imm : Immediate) : Statement (.iOp04 rs rt imm) := rfl
theorem iOp05 (rs rt : RegCode) (imm : Immediate) : Statement (.iOp05 rs rt imm) := rfl
theorem iOp06 (rs rt : RegCode) (imm : Immediate) : Statement (.iOp06 rs rt imm) := rfl
theorem iOp07 (rs rt : RegCode) (imm : Immediate) : Statement (.iOp07 rs rt imm) := rfl
theorem iOp08 (rs rt : RegCode) (imm : Immediate) : Statement (.iOp08 rs rt imm) := rfl
theorem iOp09 (rs rt : RegCode) (imm : Immediate) : Statement (.iOp09 rs rt imm) := rfl
theorem iOp10 (rs rt : RegCode) (imm : Immediate) : Statement (.iOp10 rs rt imm) := rfl
theorem iOp11 (rs rt : RegCode) (imm : Immediate) : Statement (.iOp11 rs rt imm) := rfl
theorem iOp12 (rs rt : RegCode) (imm : Immediate) : Statement (.iOp12 rs rt imm) := rfl
theorem iOp13 (rs rt : RegCode) (imm : Immediate) : Statement (.iOp13 rs rt imm) := rfl
theorem iOp14 (rs rt : RegCode) (imm : Immediate) : Statement (.iOp14 rs rt imm) := rfl
theorem iOp15 (rs rt : RegCode) (imm : Immediate) : Statement (.iOp15 rs rt imm) := rfl
theorem iOp16 (rs rt : RegCode) (imm : Immediate) : Statement (.iOp16 rs rt imm) := rfl
theorem iOp17 (rs rt : RegCode) (imm : Immediate) : Statement (.iOp17 rs rt imm) := rfl
theorem iOp18 (rs rt : RegCode) (imm : Immediate) : Statement (.iOp18 rs rt imm) := rfl
theorem iOp19 (rs rt : RegCode) (imm : Immediate) : Statement (.iOp19 rs rt imm) := rfl
theorem iOp20 (rs rt : RegCode) (imm : Immediate) : Statement (.iOp20 rs rt imm) := rfl
theorem iOp21 (rs rt : RegCode) (imm : Immediate) : Statement (.iOp21 rs rt imm) := rfl
theorem iOp22 (rs rt : RegCode) (imm : Immediate) : Statement (.iOp22 rs rt imm) := rfl
theorem iOp23 (rs rt : RegCode) (imm : Immediate) : Statement (.iOp23 rs rt imm) := rfl
theorem iOp24 (rs rt : RegCode) (imm : Immediate) : Statement (.iOp24 rs rt imm) := rfl
theorem iOp25 (rs rt : RegCode) (imm : Immediate) : Statement (.iOp25 rs rt imm) := rfl
theorem iOp26 (rs rt : RegCode) (imm : Immediate) : Statement (.iOp26 rs rt imm) := rfl
theorem iOp27 (rs rt : RegCode) (imm : Immediate) : Statement (.iOp27 rs rt imm) := rfl
theorem iOp28 (rs rt : RegCode) (imm : Immediate) : Statement (.iOp28 rs rt imm) := rfl
theorem iOp29 (rs rt : RegCode) (imm : Immediate) : Statement (.iOp29 rs rt imm) := rfl
theorem iOp30 (rs rt : RegCode) (imm : Immediate) : Statement (.iOp30 rs rt imm) := rfl
theorem iOp31 (rs rt : RegCode) (imm : Immediate) : Statement (.iOp31 rs rt imm) := rfl
theorem iOp32 (rs rt : RegCode) (imm : Immediate) : Statement (.iOp32 rs rt imm) := rfl
theorem iOp33 (rs rt : RegCode) (imm : Immediate) : Statement (.iOp33 rs rt imm) := rfl
theorem iOp34 (rs rt : RegCode) (imm : Immediate) : Statement (.iOp34 rs rt imm) := rfl
theorem iOp35 (rs rt : RegCode) (imm : Immediate) : Statement (.iOp35 rs rt imm) := rfl
theorem iOp36 (rs rt : RegCode) (imm : Immediate) : Statement (.iOp36 rs rt imm) := rfl
theorem iOp37 (rs rt : RegCode) (imm : Immediate) : Statement (.iOp37 rs rt imm) := rfl
theorem iOp38 (rs rt : RegCode) (imm : Immediate) : Statement (.iOp38 rs rt imm) := rfl
theorem iOp39 (rs rt : RegCode) (imm : Immediate) : Statement (.iOp39 rs rt imm) := rfl
theorem iOp40 (rs rt : RegCode) (imm : Immediate) : Statement (.iOp40 rs rt imm) := rfl
theorem iOp41 (rs rt : RegCode) (imm : Immediate) : Statement (.iOp41 rs rt imm) := rfl
theorem iOp42 (rs rt : RegCode) (imm : Immediate) : Statement (.iOp42 rs rt imm) := rfl
theorem iOp43 (rs rt : RegCode) (imm : Immediate) : Statement (.iOp43 rs rt imm) := rfl
theorem iOp44 (rs rt : RegCode) (imm : Immediate) : Statement (.iOp44 rs rt imm) := rfl
theorem iOp45 (rs rt : RegCode) (imm : Immediate) : Statement (.iOp45 rs rt imm) := rfl
theorem iOp46 (rs rt : RegCode) (imm : Immediate) : Statement (.iOp46 rs rt imm) := rfl
theorem iOp47 (rs rt : RegCode) (imm : Immediate) : Statement (.iOp47 rs rt imm) := rfl
theorem iOp48 (rs rt : RegCode) (imm : Immediate) : Statement (.iOp48 rs rt imm) := rfl
theorem iOp49 (rs rt : RegCode) (imm : Immediate) : Statement (.iOp49 rs rt imm) := rfl
theorem iOp50 (rs rt : RegCode) (imm : Immediate) : Statement (.iOp50 rs rt imm) := rfl
theorem iOp51 (rs rt : RegCode) (imm : Immediate) : Statement (.iOp51 rs rt imm) := rfl
theorem iOp52 (rs rt : RegCode) (imm : Immediate) : Statement (.iOp52 rs rt imm) := rfl
theorem iOp53 (rs rt : RegCode) (imm : Immediate) : Statement (.iOp53 rs rt imm) := rfl
theorem iOp54 (rs rt : RegCode) (imm : Immediate) : Statement (.iOp54 rs rt imm) := rfl
theorem iOp55 (rs rt : RegCode) (imm : Immediate) : Statement (.iOp55 rs rt imm) := rfl
theorem iOp56 (rs rt : RegCode) (imm : Immediate) : Statement (.iOp56 rs rt imm) := rfl
theorem iOp57 (rs rt : RegCode) (imm : Immediate) : Statement (.iOp57 rs rt imm) := rfl
theorem iOp58 (rs rt : RegCode) (imm : Immediate) : Statement (.iOp58 rs rt imm) := rfl
theorem iOp59 (rs rt : RegCode) (imm : Immediate) : Statement (.iOp59 rs rt imm) := rfl
theorem iOp60 (rs rt : RegCode) (imm : Immediate) : Statement (.iOp60 rs rt imm) := rfl
theorem iOp61 (rs rt : RegCode) (imm : Immediate) : Statement (.iOp61 rs rt imm) := rfl
theorem iOp62 (rs rt : RegCode) (imm : Immediate) : Statement (.iOp62 rs rt imm) := rfl
theorem iOp63 (rs rt : RegCode) (imm : Immediate) : Statement (.iOp63 rs rt imm) := rfl

end Sys2Proof.Laws.RecordWellFormed
end

