-- ==== Sys2Proof/Tests/Slice0.lean ====
section
/-! SUPPORT. The model's own tests. Expected values come from spec/95_test_vectors.md (its section is named), from the
encoding column of spec/opcode_table.json, or by hand from a rule; none is the model's own answer. Then, for every
statement of Obligations.lean that has hypotheses, a witness: concrete values that meet them all, clause by clause. -/

namespace Sys2Proof.Tests

open Sys2Proof Sys2Proof.Machine

set_option Elab.async false

/-! ## Helpers -/

/-- A state with a Word on the port or none, its outputs, actions and tables. -/
def st (word : Option Word) (actions : List HostAction) (tables : HostTables) : State :=
  { word := word, outputs := word.map outputsOf, actions := actions, results := [], tables := tables }

/-- What a step leaves, where it answers a next state. -/
def after (s : State) : Option State :=
  match step s with
  | .next t => some t
  | .fault _ => none
  | .refused _ => none

def outputsAfter (s : State) : Option Outputs := (after s).bind State.outputs

def resultsAfter (s : State) : List HostResult := ((after s).map State.results).getD []

def portsAfterWord (w : Word) : Option Outputs := outputsAfter (st none [.present w] HostTables.absent)

def key6 (n : Nat) (s : String) : BitVec 6 × Str := (BitVec.ofNat 6 n, s.toList)

/-- The fixture tables (95_test_vectors.md section 2). -/
def regRows : List (RegCode × Str) :=
  ((List.range 32).map (BitVec.ofNat 5)).zip
    ((["zero", "at", "v0", "v1", "a0", "a1", "a2", "a3", "t0", "t1", "t2", "t3", "t4", "t5", "t6", "t7"] ++
      ["s0", "s1", "s2", "s3", "s4", "s5", "s6", "s7", "t8", "t9", "k0", "k1", "gp", "sp", "fp", "ra"]).map
      String.toList)

def opRows : List (Opcode × Str) :=
  [key6 2 "j", key6 3 "jal", key6 4 "beq", key6 5 "bne", key6 8 "addi", key6 13 "ori", key6 35 "lw", key6 43 "sw"]

def fnRows : List (FunctionCode × Str) :=
  [key6 0 "sll", key6 2 "srl", key6 8 "jr", key6 32 "add", key6 34 "sub", key6 36 "and"]

def fixture : HostTables where
  regTable := .loaded regRows
  mnOpcode := .loaded opRows
  mnFunct := .loaded fnRows
  formatColumn := none
  detailNamePrefix := .bare

/-- The register rows without those of some codes. -/
def rowsLacking (codes : List RegCode) : List (RegCode × Str) :=
  regRows.filter fun row => !codes.contains row.1

/-- The fixture without the rows of some register codes. -/
def lacking (codes : List RegCode) : HostTables := { fixture with regTable := .loaded (rowsLacking codes) }

def shown (t : HostTables) (w : Word) : List HostResult := resultsAfter (st (some w) [.render] t)

/-- The 32 characters of the Scenario 2 Word (95_test_vectors.md section 1). -/
def scenario2 : Str := "00001000000000000000000100000000".toList

/-! ## Decoding: one word a row, written out from the encoding column of spec/opcode_table.json -/

theorem test_decode_rows_00_to_07 :
    decode 0b000000_01001_10110_11000_00101_100010#32 = .rFormat 9#5 22#5 24#5 5#5 34#6 ∧
    decode 0b000001_01001_10110_1000000000000101#32 = .iOp01 9#5 22#5 0x8005#16 ∧
    decode 0b000010_10110000000000000000001101#32 = .jOp02 0x2C0000D#26 ∧
    decode 0b000011_10110000000000000000001101#32 = .jOp03 0x2C0000D#26 ∧
    decode 0b000100_01001_10110_1000000000000101#32 = .iOp04 9#5 22#5 0x8005#16 ∧
    decode 0b000101_01001_10110_1000000000000101#32 = .iOp05 9#5 22#5 0x8005#16 ∧
    decode 0b000110_01001_10110_1000000000000101#32 = .iOp06 9#5 22#5 0x8005#16 ∧
    decode 0b000111_01001_10110_1000000000000101#32 = .iOp07 9#5 22#5 0x8005#16 := by decide

theorem test_decode_rows_08_to_15 :
    decode 0b001000_01001_10110_1000000000000101#32 = .iOp08 9#5 22#5 0x8005#16 ∧
    decode 0b001001_01001_10110_1000000000000101#32 = .iOp09 9#5 22#5 0x8005#16 ∧
    decode 0b001010_01001_10110_1000000000000101#32 = .iOp10 9#5 22#5 0x8005#16 ∧
    decode 0b001011_01001_10110_1000000000000101#32 = .iOp11 9#5 22#5 0x8005#16 ∧
    decode 0b001100_01001_10110_1000000000000101#32 = .iOp12 9#5 22#5 0x8005#16 ∧
    decode 0b001101_01001_10110_1000000000000101#32 = .iOp13 9#5 22#5 0x8005#16 ∧
    decode 0b001110_01001_10110_1000000000000101#32 = .iOp14 9#5 22#5 0x8005#16 ∧
    decode 0b001111_01001_10110_1000000000000101#32 = .iOp15 9#5 22#5 0x8005#16 := by decide

theorem test_decode_rows_16_to_23 :
    decode 0b010000_01001_10110_1000000000000101#32 = .iOp16 9#5 22#5 0x8005#16 ∧
    decode 0b010001_01001_10110_1000000000000101#32 = .iOp17 9#5 22#5 0x8005#16 ∧
    decode 0b010010_01001_10110_1000000000000101#32 = .iOp18 9#5 22#5 0x8005#16 ∧
    decode 0b010011_01001_10110_1000000000000101#32 = .iOp19 9#5 22#5 0x8005#16 ∧
    decode 0b010100_01001_10110_1000000000000101#32 = .iOp20 9#5 22#5 0x8005#16 ∧
    decode 0b010101_01001_10110_1000000000000101#32 = .iOp21 9#5 22#5 0x8005#16 ∧
    decode 0b010110_01001_10110_1000000000000101#32 = .iOp22 9#5 22#5 0x8005#16 ∧
    decode 0b010111_01001_10110_1000000000000101#32 = .iOp23 9#5 22#5 0x8005#16 := by decide

theorem test_decode_rows_24_to_31 :
    decode 0b011000_01001_10110_1000000000000101#32 = .iOp24 9#5 22#5 0x8005#16 ∧
    decode 0b011001_01001_10110_1000000000000101#32 = .iOp25 9#5 22#5 0x8005#16 ∧
    decode 0b011010_01001_10110_1000000000000101#32 = .iOp26 9#5 22#5 0x8005#16 ∧
    decode 0b011011_01001_10110_1000000000000101#32 = .iOp27 9#5 22#5 0x8005#16 ∧
    decode 0b011100_01001_10110_1000000000000101#32 = .iOp28 9#5 22#5 0x8005#16 ∧
    decode 0b011101_01001_10110_1000000000000101#32 = .iOp29 9#5 22#5 0x8005#16 ∧
    decode 0b011110_01001_10110_1000000000000101#32 = .iOp30 9#5 22#5 0x8005#16 ∧
    decode 0b011111_01001_10110_1000000000000101#32 = .iOp31 9#5 22#5 0x8005#16 := by decide

theorem test_decode_rows_32_to_39 :
    decode 0b100000_01001_10110_1000000000000101#32 = .iOp32 9#5 22#5 0x8005#16 ∧
    decode 0b100001_01001_10110_1000000000000101#32 = .iOp33 9#5 22#5 0x8005#16 ∧
    decode 0b100010_01001_10110_1000000000000101#32 = .iOp34 9#5 22#5 0x8005#16 ∧
    decode 0b100011_01001_10110_1000000000000101#32 = .iOp35 9#5 22#5 0x8005#16 ∧
    decode 0b100100_01001_10110_1000000000000101#32 = .iOp36 9#5 22#5 0x8005#16 ∧
    decode 0b100101_01001_10110_1000000000000101#32 = .iOp37 9#5 22#5 0x8005#16 ∧
    decode 0b100110_01001_10110_1000000000000101#32 = .iOp38 9#5 22#5 0x8005#16 ∧
    decode 0b100111_01001_10110_1000000000000101#32 = .iOp39 9#5 22#5 0x8005#16 := by decide

theorem test_decode_rows_40_to_47 :
    decode 0b101000_01001_10110_1000000000000101#32 = .iOp40 9#5 22#5 0x8005#16 ∧
    decode 0b101001_01001_10110_1000000000000101#32 = .iOp41 9#5 22#5 0x8005#16 ∧
    decode 0b101010_01001_10110_1000000000000101#32 = .iOp42 9#5 22#5 0x8005#16 ∧
    decode 0b101011_01001_10110_1000000000000101#32 = .iOp43 9#5 22#5 0x8005#16 ∧
    decode 0b101100_01001_10110_1000000000000101#32 = .iOp44 9#5 22#5 0x8005#16 ∧
    decode 0b101101_01001_10110_1000000000000101#32 = .iOp45 9#5 22#5 0x8005#16 ∧
    decode 0b101110_01001_10110_1000000000000101#32 = .iOp46 9#5 22#5 0x8005#16 ∧
    decode 0b101111_01001_10110_1000000000000101#32 = .iOp47 9#5 22#5 0x8005#16 := by decide

theorem test_decode_rows_48_to_55 :
    decode 0b110000_01001_10110_1000000000000101#32 = .iOp48 9#5 22#5 0x8005#16 ∧
    decode 0b110001_01001_10110_1000000000000101#32 = .iOp49 9#5 22#5 0x8005#16 ∧
    decode 0b110010_01001_10110_1000000000000101#32 = .iOp50 9#5 22#5 0x8005#16 ∧
    decode 0b110011_01001_10110_1000000000000101#32 = .iOp51 9#5 22#5 0x8005#16 ∧
    decode 0b110100_01001_10110_1000000000000101#32 = .iOp52 9#5 22#5 0x8005#16 ∧
    decode 0b110101_01001_10110_1000000000000101#32 = .iOp53 9#5 22#5 0x8005#16 ∧
    decode 0b110110_01001_10110_1000000000000101#32 = .iOp54 9#5 22#5 0x8005#16 ∧
    decode 0b110111_01001_10110_1000000000000101#32 = .iOp55 9#5 22#5 0x8005#16 := by decide

theorem test_decode_rows_56_to_63 :
    decode 0b111000_01001_10110_1000000000000101#32 = .iOp56 9#5 22#5 0x8005#16 ∧
    decode 0b111001_01001_10110_1000000000000101#32 = .iOp57 9#5 22#5 0x8005#16 ∧
    decode 0b111010_01001_10110_1000000000000101#32 = .iOp58 9#5 22#5 0x8005#16 ∧
    decode 0b111011_01001_10110_1000000000000101#32 = .iOp59 9#5 22#5 0x8005#16 ∧
    decode 0b111100_01001_10110_1000000000000101#32 = .iOp60 9#5 22#5 0x8005#16 ∧
    decode 0b111101_01001_10110_1000000000000101#32 = .iOp61 9#5 22#5 0x8005#16 ∧
    decode 0b111110_01001_10110_1000000000000101#32 = .iOp62 9#5 22#5 0x8005#16 ∧
    decode 0b111111_01001_10110_1000000000000101#32 = .iOp63 9#5 22#5 0x8005#16 := by decide

/-- decodeTableWord numbers bits as the Word does; more than 32 bits are no Word (R38). -/
theorem test_decodeTableWord :
    decodeTableWord 32 0x08000100 = some (.jOp02 256#26) ∧ decodeTableWord 40 0x08000100 = none := by decide

/-! ## Well-formedness: an ill-formed record for each check, refused -/

theorem test_wellFormed_i_refuses_opcode_0 : (Record.i 0#6 1#5 2#5 3#16).wellFormed = false := by decide
theorem test_wellFormed_i_refuses_opcode_2 : (Record.i 2#6 1#5 2#5 3#16).wellFormed = false := by decide
theorem test_wellFormed_i_refuses_opcode_3 : (Record.i 3#6 1#5 2#5 3#16).wellFormed = false := by decide
theorem test_wellFormed_j_refuses_opcode_4 : (Record.j 4#6 5#26).wellFormed = false := by decide
theorem test_wellFormed_accepts :
    (Record.i 1#6 1#5 2#5 3#16).wellFormed = true ∧ (Record.j 2#6 5#26).wellFormed = true ∧
    (Record.j 3#6 5#26).wellFormed = true ∧ (Record.r 1#5 2#5 3#5 4#5 5#6).wellFormed = true := by decide

/-! ## CLASSIFY (95_test_vectors.md section 3.1) -/

theorem test_classify_vectors :
    classify 0x00000000#32 = .R ∧ classify 0x03FFFFFF#32 = .R ∧ classify 0x04000000#32 = .I ∧
    classify 0x08000000#32 = .J ∧ classify 0x0C000000#32 = .J ∧ classify 0x0FFFFFFF#32 = .J ∧
    classify 0x10000000#32 = .I ∧ classify 0x7C000000#32 = .I ∧ classify 0xFC000000#32 = .I := by decide

/-! ## DECODE, every port, by one step (95_test_vectors.md section 3.5; the last from section 5, P2) -/

theorem test_ports_of_scenario_2 :
    portsAfterWord 0x08000100#32 = some ⟨.J, 2, 0, 0, 0, 4, 0, 0x0100, 0x0000100, 0x0000400⟩ := by decide

theorem test_ports_of_an_r_word :
    portsAfterWord 0x012A4020#32 = some ⟨.R, 0, 9, 10, 8, 0, 32, 0x4020, 0x12A4020, 0x4A90080⟩ := by decide

theorem test_ports_of_an_i_word :
    portsAfterWord 0x2008FFFF#32 = some ⟨.I, 8, 0, 8, 31, 31, 63, 0xFFFF, 0x008FFFF, 0x023FFFC⟩ := by decide

theorem test_ports_of_all_ones :
    portsAfterWord 0xFFFFFFFF#32 = some ⟨.I, 63, 31, 31, 31, 31, 63, 0xFFFF, 0x3FFFFFF, 0xFFFFFFC⟩ := by decide

theorem test_ports_of_jr :
    portsAfterWord 0x03E00008#32 = some ⟨.R, 0, 31, 0, 0, 0, 8, 0x0008, 0x3E00008, 0xF800020⟩ := by decide

theorem test_fmt_codes :
    (portsAfterWord 0x012A4020#32).map Outputs.fmt = some 0b00#2 ∧
    (portsAfterWord 0x2008FFFF#32).map Outputs.fmt = some 0b01#2 ∧
    (portsAfterWord 0x08000100#32).map Outputs.fmt = some 0b10#2 := by decide

/-! ## EXTRACT: the records (95_test_vectors.md sections 3.2 to 3.4 and 3.6) -/

theorem test_record_r : (portsAfterWord 0x01204102#32).map Outputs.record = some (.r 9 0 8 4 2) := by decide
theorem test_record_i : (portsAfterWord 0x2108FFFF#32).map Outputs.record = some (.i 8 8 8 0xFFFF) := by decide
theorem test_record_j : (portsAfterWord 0x0BFFFFFF#32).map Outputs.record = some (.j 2 0x3FFFFFF) := by decide

theorem test_signed_immediates :
    immediateSigned 0x0000#16 = 0 ∧ immediateSigned 0x7FFF#16 = 32767 ∧ immediateSigned 0x8000#16 = -32768 ∧
    immediateSigned 0xFFFF#16 = -1 := by decide

theorem test_encode_words :
    encode (.rFormat 9 10 8 0 32) = 0x012A4020#32 ∧ encode (.iOp08 0 8 0xFFFF) = 0x2008FFFF#32 ∧
    encode (.jOp02 0x3FFFFFF) = 0x0BFFFFFF#32 := by decide

/-! ## Reset and the placed Word -/

theorem test_reset_stops : after State.reset = none := by decide

theorem test_placed_word_runs_first :
    outputsAfter (State.reset.withFetchWord 32 0x08000100) =
      some ⟨.J, 2, 0, 0, 0, 4, 0, 0x0100, 0x0000100, 0x0000400⟩ := by decide

/-! ## PARSE_BITS (95_test_vectors.md section 4.1) -/

theorem test_parse_scenario_2 : parseBits scenario2 = .ok 0x08000100#32 := by decide
theorem test_parse_31 : parseBits "0000100000000000000000010000000".toList = .error (.wrongLength 31) := by decide
theorem test_parse_39 :
    parseBits "0000_1000_0000_0000_0000_0001_0000_0000".toList = .error (.wrongLength 39) := by decide
theorem test_parse_underscore :
    parseBits "0000100000000000000000010000000_".toList = .error (.nonBinaryChar 31) := by decide
theorem test_parse_lowest_index :
    parseBits "2000100000000000000000010000000x".toList = .error (.nonBinaryChar 0) := by decide
theorem test_parse_space :
    parseBits "0000100000000000 000000010000000".toList = .error (.nonBinaryChar 16) := by decide

/-! ## RENDER (95_test_vectors.md sections 4.2 and 4.3) -/

theorem test_render_j : shown fixture 0x0BFFFFFF#32 =
    [.text "(J-Format) j 67108863\nJump to address 268435452".toList] := by decide

theorem test_render_r_reg : shown fixture 0x012A4020#32 =
    [.text "(R-Format) add $t0, $t1, $t2\nrs: 01001 is t1\nrt: 01010 is t2\nrd: 01000 is t0".toList] := by decide

theorem test_render_r_shift : shown fixture 0x012A4120#32 =
    [.text "(R-Format) add $t0, $t2, 4\nrt: 01010 is t2\nrd: 01000 is t0".toList] := by decide

theorem test_render_i : shown fixture 0x20088000#32 =
    [.text "(I-Format) addi $t0, $zero, -32768\nrt: 01000 is t0\nrs: 00000 is zero".toList] := by decide

theorem test_render_opcode_not_found : shown fixture 0xFFFFFFFF#32 =
    [.failed (.render (.nameNotFound (.opcode 0b111111#6)))] := by decide

theorem test_render_rd_is_resolved_first : shown (lacking [8, 10]) 0x012A4020#32 =
    [.failed (.render (.nameNotFound (.register .rd 0b01000#5)))] := by decide

theorem test_render_mnemonic_before_registers :
    shown { fixture with regTable := .loaded [] } 0x03FFFFFF#32 =
      [.failed (.render (.nameNotFound (.functionCode 0b111111#6)))] := by decide

theorem test_render_shift_ignores_rs : shown (lacking [9]) 0x01204102#32 =
    [.text "(R-Format) srl $t0, $zero, 4\nrt: 00000 is zero\nrd: 01000 is t0".toList] := by decide

theorem test_render_j_needs_no_registers :
    shown { fixture with regTable := .unavailable .tableMissing } 0x08000100#32 =
      [.text "(J-Format) j 256\nJump to address 1024".toList] := by decide

theorem test_render_register_table_missing :
    shown { fixture with regTable := .unavailable .tableMissing } 0x012A4020#32 =
      [.failed (.render (.configuration ⟨.registerTable, .tableMissing⟩))] := by decide

theorem test_render_column_missing :
    shown { fixture with mnOpcode := .unavailable (.columnMissing "opcode".toList) } 0x2008FFFF#32 =
      [.failed (.render (.configuration ⟨.instructionTable, .columnMissing "opcode".toList⟩))] := by decide

/-! ## RESOLVE (95_test_vectors.md section 1, S1) and the string actions -/

theorem test_resolve_code_4 :
    resultsAfter (st none [.resolve (.register .rs 0b00100#5)] fixture) = [.name "a0".toList] := by decide

theorem test_malformed_string_leaves_the_ports :
    (after (st (some 0x08000100#32) [.display "1".toList] fixture)).map State.word = some (some 0x08000100#32) ∧
    resultsAfter (st (some 0x08000100#32) [.display "1".toList] fixture) =
      [.failed (.malformedInput (.wrongLength 1))] := by decide

theorem test_display_evaluates_and_queues_the_render :
    (after (st none [.display scenario2] fixture)).map State.actions = some [.render] ∧
    (outputsAfter (st none [.display scenario2] fixture)).map Outputs.jtarget = some 1024#28 := by decide

/-! ## Witnesses: the hypotheses of every statement, met together -/

theorem witness_StepRunsTheDecodedInstruction :
    (st none [.present 5#32] fixture).actions = .present 5#32 :: [] ∧
    (st none [.decodeBits scenario2] fixture).actions = .decodeBits scenario2 :: [] ∧
    (st none [.display scenario2] fixture).actions = .display scenario2 :: [] ∧
    parseBits scenario2 = .ok 0x08000100#32 ∧
    (st (some 5#32) [] fixture).actions = [] ∧ (st (some 5#32) [] fixture).word = some 5#32 := by decide +kernel

theorem witness_PlacedWordRunsInTheNextStep : (0 : Nat) ≤ 32 ∧ (32 : Nat) ≤ 32 := by decide +kernel

theorem witness_RFormatExtractsItsFields :
    (0x00000000#32).extractLsb 31 26 = 0#6 ∧ (0x03FFFFFF#32).extractLsb 31 26 = 0#6 := by decide +kernel

theorem witness_IFormatExtractsItsFields :
    ((0x04000000#32).extractLsb 31 26 ≠ 0#6 ∧ (0x04000000#32).extractLsb 31 26 ≠ 2#6 ∧
      (0x04000000#32).extractLsb 31 26 ≠ 3#6) ∧
    ((0x10000000#32).extractLsb 31 26 ≠ 0#6 ∧ (0x10000000#32).extractLsb 31 26 ≠ 2#6 ∧
      (0x10000000#32).extractLsb 31 26 ≠ 3#6) ∧
    ((0xFFFFFFFF#32).extractLsb 31 26 ≠ 0#6 ∧ (0xFFFFFFFF#32).extractLsb 31 26 ≠ 2#6 ∧
      (0xFFFFFFFF#32).extractLsb 31 26 ≠ 3#6) := by decide

theorem witness_JFormatExtractsItsFields :
    (0x08000000#32).extractLsb 31 26 = 2#6 ∧ (0x0FFFFFFF#32).extractLsb 31 26 = 3#6 := by decide +kernel

theorem witness_EvaluationChangesOnlyTheOutputPorts :
    exec (.jOp02 256) (st none [.render] fixture) =
      .next ((st none [.render] fixture).driveOutputs (outputsJ 2 256)) := rfl

theorem witness_VariantDependsOnTheOpcodeBitsAlone :
    (0x08000000#32).extractLsb 31 26 = (0x0BFFFFFF#32).extractLsb 31 26 := by decide +kernel

theorem witness_DecodeOfEncodeIsTheInstruction : (Instr.iOp63 31 31 0xFFFF).wellFormed = true := by decide +kernel

theorem witness_SignedImmediateIsTheTwosComplementReading :
    (0x7FFF#16).getLsbD 15 = false ∧ (0x8000#16).getLsbD 15 = true := by decide +kernel

theorem witness_EveryWordDecodesWithoutATable :
    (st none [.present 0xFFFFFFFF#32] HostTables.absent).actions = .present 0xFFFFFFFF#32 :: [] := by decide +kernel

theorem witness_OutputsDependOnTheWordAlone :
    (st none [.present 7#32] HostTables.absent).actions = .present 7#32 :: [] ∧
    (st (some 9#32) [.present 7#32, .render] fixture).actions = .present 7#32 :: [.render] := by decide +kernel

theorem witness_FormatColumnIsIgnored :
    (∀ tables rest, (st (some 0x08000100#32) [.render] fixture).actions ≠ .provideTables tables :: rest) ∧
    (after (st (some 0x08000100#32) [.render] fixture)).isSome = true ∧
    (∀ tables rest, (st none [.render] fixture).actions ≠ .provideTables tables :: rest) ∧
    step (st none [.render] fixture) = .fault .outputsUndefined := by
  refine ⟨fun _ _ h => ?_, by decide +kernel, fun _ _ h => ?_, rfl⟩ <;> simp [st] at h

theorem witness_EveryStepKeepsThePortsConsistent :
    (st none [.present 5#32] fixture).portsConsistent ∧
    step (st none [.present 5#32] fixture) = .next (st (some 5#32) [] fixture) := ⟨rfl, rfl⟩

theorem witness_DrivenMachineNeverStops :
    (st (some 5#32) [] fixture).portsConsistent ∧ (st (some 5#32) [] fixture).driven := ⟨rfl, rfl⟩

theorem witness_StepStopsOnlyWhereNoOutputExists :
    step (st none [] fixture) = .fault .noWordDriven ∧ step (st none [.readPorts] fixture) = .fault .outputsUndefined ∧
    step (st none [.readRecord] fixture) = .fault .outputsUndefined ∧
    step (st none [.render] fixture) = .fault .outputsUndefined ∧
    (after (st none [.parseBits []] fixture)).isSome = true :=
  ⟨rfl, rfl, rfl, rfl, by decide⟩

/-- Strings of the wrong length; one with a bad character only at the end, and one with it at the start; and one of 32
digits. -/
theorem witness_ParseBitsChecksThenReadsTheDigits :
    (([] : Str).length ≠ 32 ∧ (List.replicate 31 '0').length ≠ 32 ∧ (List.replicate 33 '0').length ≠ 32) ∧
    ((List.replicate 31 '0' ++ ['_']).length = 32 ∧ (List.replicate 31 '0' ++ ['_'])[31]? = some '_' ∧
      ∀ j, j < 31 →
        (List.replicate 31 '0' ++ ['_'])[j]? = some '0' ∨ (List.replicate 31 '0' ++ ['_'])[j]? = some '1') ∧
    (('x' :: List.replicate 31 '0').length = 32 ∧ ('x' :: List.replicate 31 '0')[0]? = some 'x') ∧
    ((List.replicate 32 '1').length = 32 ∧ ∀ c, c ∈ List.replicate 32 '1' → c = '0' ∨ c = '1') := by
  refine ⟨by decide, ⟨by decide, by decide, fun j h => .inl ?_⟩, by decide, by decide, fun c h => .inr ?_⟩
  · rw [List.getElem?_append_left (by simpa using h), List.getElem?_replicate_of_lt h]
  · exact (List.mem_replicate.1 h).2

theorem witness_ParseBitsReturnsItsWordOrItsError :
    (st none [.parseBits scenario2] fixture).actions = .parseBits scenario2 :: [] ∧
    parseBits scenario2 = .ok 0x08000100#32 ∧
    (st none [.parseBits ['1']] fixture).actions = .parseBits ['1'] :: [] ∧
    parseBits ['1'] = .error (.wrongLength 1) := by decide +kernel

theorem witness_WrongLengthIsRefused :
    (List.replicate 33 '0').length ≠ 32 ∧
    (st none [.parseBits (List.replicate 33 '0')] fixture).actions = .parseBits (List.replicate 33 '0') :: [] ∧
    (List.replicate 31 '0').length ≠ 32 ∧
    (st none [.decodeBits (List.replicate 31 '0')] fixture).actions = .decodeBits (List.replicate 31 '0') :: [] ∧
    ([] : Str).length ≠ 32 ∧ (st none [.display []] fixture).actions = .display [] :: [] := by decide +kernel

theorem witness_DecodeOfAStringIsParseThenDecode :
    (st none [.decodeBits scenario2] fixture).actions = .decodeBits scenario2 :: [] ∧
    parseBits scenario2 = .ok 0x08000100#32 ∧
    (st none [.decodeBits []] fixture).actions = .decodeBits [] :: [] ∧
    parseBits [] = .error (.wrongLength 0) := by decide +kernel

/-- Each of the five actions that can return an error, with one it returns, and a Word to follow. -/
theorem witness_ErrorLeavesNothingBehind :
    (st none [.parseBits ['1'], .present 5#32] fixture).actions = .parseBits ['1'] :: [.present 5#32] ∧
    ReturnsError (st none [.parseBits ['1'], .present 5#32] fixture) (.parseBits ['1'])
      (.malformedInput (.wrongLength 1)) ∧
    ReturnsError (st none [.decodeBits ['1'], .present 5#32] fixture) (.decodeBits ['1'])
      (.malformedInput (.wrongLength 1)) ∧
    ReturnsError (st none [.display ['1'], .present 5#32] fixture) (.display ['1'])
      (.malformedInput (.wrongLength 1)) ∧
    ReturnsError (st none [.resolve (.opcode 63#6), .present 5#32] fixture) (.resolve (.opcode 63#6))
      (.render (.nameNotFound (.opcode 63#6))) ∧
    ReturnsError (st (some 0x08000100#32) [.render, .present 5#32] HostTables.absent) .render
      (.render (.configuration ⟨.instructionTable, .tableMissing⟩)) ∧
    ReturnsError (st (some 0xFFFFFFFF#32) [.render, .present 5#32] fixture) .render
      (.render (.nameNotFound (.opcode 63#6))) :=
  ⟨rfl, ⟨_, rfl, rfl⟩, ⟨_, rfl, rfl⟩, ⟨_, rfl, rfl⟩, ⟨_, rfl, rfl⟩, ⟨_, _, rfl, rfl, rfl⟩, ⟨_, _, rfl, rfl, rfl⟩⟩

theorem witness_DisplayRunsTheWholePipeline :
    (st none [.display scenario2] fixture).actions = .display scenario2 :: [] ∧
    parseBits scenario2 = .ok 0x08000100#32 := by decide +kernel

/-- The three outcomes of each of the three lookups: a table unavailable, a key absent, a name found. -/
theorem witness_ResolveReadsTheNamedTable :
    (∀ tables ∈ [HostTables.absent, lacking [31], fixture],
      (st none [.resolve (.register .rt 31#5)] tables).actions = .resolve (.register .rt 31#5) :: [] ∧
      (st none [.resolve (.opcode 2#6)] tables).actions = .resolve (.opcode 2#6) :: [] ∧
      (st none [.resolve (.opcode 63#6)] tables).actions = .resolve (.opcode 63#6) :: [] ∧
      (st none [.resolve (.functionCode 0#6)] tables).actions = .resolve (.functionCode 0#6) :: [] ∧
      (st none [.resolve (.functionCode 63#6)] tables).actions = .resolve (.functionCode 63#6) :: []) ∧
    (HostTables.absent.regTable = .unavailable .tableMissing ∧ HostTables.absent.mnOpcode = .unavailable .tableMissing ∧
      HostTables.absent.mnFunct = .unavailable .tableMissing) ∧
    ((lacking [31]).regTable = .loaded (rowsLacking [31]) ∧ lookupRow 31#5 (rowsLacking [31]) = none ∧
      fixture.regTable = .loaded regRows ∧ lookupRow 31#5 regRows = some "ra".toList) ∧
    (fixture.mnOpcode = .loaded opRows ∧ lookupRow 63#6 opRows = none ∧ lookupRow 2#6 opRows = some "j".toList) ∧
    (fixture.mnFunct = .loaded fnRows ∧ lookupRow 63#6 fnRows = none ∧ lookupRow 0#6 fnRows = some "sll".toList) := by
  decide +kernel

/-- Keys of six bits, with a key present and one absent, and the register table of 32 rows, whose keys have five. -/
theorem witness_LookupFindsExactlyTheMatchingRow :
    (Table.loaded [key6 0 "sll", key6 63 "x"]).oneValuePerKey = true ∧
    lookupRow 63#6 [key6 0 "sll", key6 63 "x"] = some "x".toList ∧ lookupRow 1#6 [key6 0 "sll", key6 63 "x"] = none ∧
    (Table.loaded regRows).oneValuePerKey = true ∧ lookupRow 31#5 regRows = some "ra".toList ∧
    (Table.loaded (rowsLacking [31])).oneValuePerKey = true ∧ lookupRow 31#5 (rowsLacking [31]) = none := by
  decide +kernel

theorem witness_CompleteRegisterTableNamesEveryCode : fixture.regTable.complete = true := by decide +kernel

theorem witness_MnemonicKeyIsFunctOrOpcode :
    (0x03FFFFFF#32).extractLsb 31 26 = 0#6 ∧ (0x04000000#32).extractLsb 31 26 ≠ 0#6 := by decide +kernel

theorem witness_RenderReturnsItsTextOrItsError :
    (st (some 0x08000100#32) [.render] fixture).actions = .render :: [] ∧
    (st (some 0x08000100#32) [.render] fixture).outputs = some (outputsOf 0x08000100#32) ∧
    render fixture (outputsOf 0x08000100#32).record =
      .ok "(J-Format) j 256\nJump to address 1024".toList ∧
    render HostTables.absent (outputsOf 0x08000100#32).record =
      .error (.configuration ⟨.instructionTable, .tableMissing⟩) := by decide +kernel

/-- For rd = 8, rs = 9, rt = 10: every lookup found, with either prefix; the function code absent; then rd, rs and rt
absent in turn, the ones before each found; and the tables unavailable. -/
theorem witness_RenderRegisterForm :
    (fixture.regTable = .loaded regRows ∧ fixture.mnFunct = .loaded fnRows ∧
      lookupRow 32#6 fnRows = some "add".toList ∧ lookupRow 8#5 regRows = some "t0".toList ∧
      lookupRow 9#5 regRows = some "t1".toList ∧ lookupRow 10#5 regRows = some "t2".toList ∧
      fixture.detailNamePrefix = .bare ∧ { fixture with detailNamePrefix := .dollar }.detailNamePrefix = .dollar) ∧
    lookupRow 63#6 fnRows = none ∧
    ((lacking [8]).regTable = .loaded (rowsLacking [8]) ∧ (lacking [8]).mnFunct = .loaded fnRows ∧
      lookupRow 8#5 (rowsLacking [8]) = none) ∧
    (lookupRow 8#5 (rowsLacking [9]) ≠ none ∧ lookupRow 9#5 (rowsLacking [9]) = none) ∧
    (lookupRow 8#5 (rowsLacking [10]) ≠ none ∧ lookupRow 9#5 (rowsLacking [10]) ≠ none ∧
      lookupRow 10#5 (rowsLacking [10]) = none) ∧
    HostTables.absent.mnFunct = .unavailable .tableMissing ∧ HostTables.absent.regTable = .unavailable .tableMissing := by
  decide +kernel

/-- For rd = 8, rt = 9, and the shift amounts 1 and 31, as above. -/
theorem witness_RenderShiftForm :
    (1#5 ≠ 0#5 ∧ 31#5 ≠ 0#5) ∧
    (fixture.regTable = .loaded regRows ∧ fixture.mnFunct = .loaded fnRows ∧
      lookupRow 0#6 fnRows = some "sll".toList ∧ lookupRow 8#5 regRows = some "t0".toList ∧
      lookupRow 9#5 regRows = some "t1".toList ∧ fixture.detailNamePrefix = .bare ∧
      { fixture with detailNamePrefix := .dollar }.detailNamePrefix = .dollar) ∧
    lookupRow 63#6 fnRows = none ∧
    ((lacking [8]).regTable = .loaded (rowsLacking [8]) ∧ (lacking [8]).mnFunct = .loaded fnRows ∧
      lookupRow 8#5 (rowsLacking [8]) = none) ∧
    (lookupRow 8#5 (rowsLacking [9]) ≠ none ∧ lookupRow 9#5 (rowsLacking [9]) = none) ∧
    HostTables.absent.mnFunct = .unavailable .tableMissing ∧ HostTables.absent.regTable = .unavailable .tableMissing := by
  decide +kernel

/-- For rt = 8, rs = 0, as above. -/
theorem witness_RenderImmediateForm :
    (fixture.regTable = .loaded regRows ∧ fixture.mnOpcode = .loaded opRows ∧
      lookupRow 8#6 opRows = some "addi".toList ∧ lookupRow 8#5 regRows = some "t0".toList ∧
      lookupRow 0#5 regRows = some "zero".toList ∧ fixture.detailNamePrefix = .bare ∧
      { fixture with detailNamePrefix := .dollar }.detailNamePrefix = .dollar) ∧
    lookupRow 63#6 opRows = none ∧
    ((lacking [8]).regTable = .loaded (rowsLacking [8]) ∧ (lacking [8]).mnOpcode = .loaded opRows ∧
      lookupRow 8#5 (rowsLacking [8]) = none) ∧
    (lookupRow 8#5 (rowsLacking [0]) ≠ none ∧ lookupRow 0#5 (rowsLacking [0]) = none) ∧
    HostTables.absent.mnOpcode = .unavailable .tableMissing ∧ HostTables.absent.regTable = .unavailable .tableMissing := by
  decide +kernel

theorem witness_RenderJumpForm :
    fixture.mnOpcode = .loaded opRows ∧ lookupRow 2#6 opRows = some "j".toList ∧
    lookupRow 3#6 opRows = some "jal".toList ∧ lookupRow 63#6 opRows = none ∧
    HostTables.absent.mnOpcode = .unavailable .tableMissing := by decide +kernel

theorem witness_ConfigurationErrorComesFirst :
    { fixture with mnFunct := .unavailable .tableMissing }.mnFunct = .unavailable .tableMissing ∧
    { fixture with mnFunct := .unavailable .tableMissing }.regTable = .loaded regRows ∧
    { fixture with regTable := .unavailable .tableMissing }.regTable = .unavailable .tableMissing ∧
    { fixture with regTable := .unavailable .tableMissing }.mnOpcode = fixture.mnOpcode ∧
    { fixture with mnOpcode := .unavailable .tableMissing }.mnOpcode = .unavailable .tableMissing ∧
    HostTables.absent.mnFunct = .unavailable .tableMissing ∧ HostTables.absent.mnOpcode = .unavailable .tableMissing ∧
    HostTables.absent.regTable = .unavailable .tableMissing := by decide +kernel

theorem witness_HostOperationsLeaveTheBlockAlone :
    ∀ a ∈ [HostAction.parseBits scenario2, .readPorts, .readRecord, .resolve (.opcode 2#6), .render],
      (st (some 0x08000100#32) [a] fixture).actions = a :: [] ∧
      (after (st (some 0x08000100#32) [a] fixture)).isSome = true := by decide +kernel

theorem witness_ReadsReturnThePortsAndTheRecord :
    (st (some 5#32) [.readPorts] fixture).outputs = some (outputsOf 5#32) ∧
    (st (some 5#32) [.readPorts] fixture).actions = .readPorts :: [] ∧
    (st (some 5#32) [.readRecord] fixture).outputs = some (outputsOf 5#32) ∧
    (st (some 5#32) [.readRecord] fixture).actions = .readRecord :: [] := by decide +kernel

theorem witness_OnlyProvidingChangesTheTables :
    step (st none [.provideTables fixture] HostTables.absent) = .next (st none [] fixture) ∧
    step (st none [.present 5#32] fixture) = .next (st (some 5#32) [] fixture) ∧
    (∀ tables rest, (st none [.present 5#32] fixture).actions ≠ .provideTables tables :: rest) := by
  refine ⟨rfl, rfl, fun _ _ h => ?_⟩; simp [st] at h

/-- A step that returns an error, and one that does not. -/
theorem witness_OnlyFailingHostOperationsReturnErrors :
    step (st none [.parseBits ['1']] fixture) =
      .next { st none [] fixture with results := [.failed (.malformedInput (.wrongLength 1))] } ∧
    step (st none [.present 5#32] fixture) = .next (st (some 5#32) [] fixture) := ⟨rfl, rfl⟩

end Sys2Proof.Tests
end

/-! ## The block's state: variants and successive evaluations (spec/10_state.md R20, R27) -/

namespace Sys2Proof.Proofs

open Sys2Proof Sys2Proof.Machine

/-- CLASSIFY reads no bit below the opcode (R20, R52). -/
theorem classify_eq_of_opcodeOf_eq {v w : Word} (h : opcodeOf v = opcodeOf w) : classify v = classify w := by
  simp only [classify, h]

/-- The row that the decoder picks has the format that CLASSIFY names. -/
theorem variantOf_decode_record (w : Word) : variantOf (decode w).record = classify w := by
  simp only [decode, instrOfFields_record, classify]
  split_ifs with hR hJ
  · rfl
  · rfl
  · rfl

/-- Settles O12: the variant is the tag that CLASSIFY gives, and CLASSIFY reads the opcode alone. -/
theorem variantDependsOnTheOpcodeBitsAlone : Obligations.VariantDependsOnTheOpcodeBitsAlone := by
  intro v w s t hop
  refine ⟨_, _, exec_eq_driveOutputs (decode v) s, exec_eq_driveOutputs (decode w) t, ?_⟩
  calc variantOf (outputsOfRecord (decode v).record).record
      = classify v := by rw [outputsOfRecord_record, variantOf_decode_record]
    _ = classify w := classify_eq_of_opcodeOf_eq hop
    _ = variantOf (outputsOfRecord (decode w).record).record := by
      rw [outputsOfRecord_record, variantOf_decode_record]

/-- The step of a presented Word: the Word and its outputs replace what the ports held (R13, R17). -/
theorem step_of_present {s : State} {w : Word} {rest : List HostAction} (h : s.actions = .present w :: rest) :
    step s = .next { s with word := some w, outputs := some (outputsOfRecord (decode w).record), actions := rest } := by
  have hturn : hostTurn s = .evaluate w ({ s with actions := rest }.driveWord w) := by
    simp only [hostTurn, h, hostAct, presentWord]
  exact step_of_evaluate hturn

/-- Settles O25: the step of `b` overwrites both fields in which the step of `a` left something. -/
theorem successiveEvaluationsAreIndependent : Obligations.SuccessiveEvaluationsAreIndependent := by
  intro s a b rest
  exact ⟨_, _, step_of_present rfl, step_of_present rfl, step_of_present rfl⟩

end Sys2Proof.Proofs

/-! ## The mnemonic key (spec/30_encoding.md R48) -/

namespace Sys2Proof.Proofs

open Sys2Proof Sys2Proof.Machine

/-- The key of a decoded Word, case by case along the rows of the opcode table: the I and J rows give the same key. -/
theorem mnemonicQuery_decode_record (w : Word) :
    mnemonicQuery (decode w).record =
      if opcodeOf w = 0#6 then .functionCode (functOf w) else .opcode (opcodeOf w) := by
  simp only [decode, instrOfFields_record]
  split_ifs with hR hJ
  · rfl
  · rfl
  · rfl

/-- Settles O43: the statement's slices are the opcode and the function code of the Word, by definition. -/
theorem mnemonicKeyIsFunctOrOpcode : Obligations.MnemonicKeyIsFunctOrOpcode := by
  intro w
  have hkey := mnemonicQuery_decode_record w
  constructor
  · intro (hop : opcodeOf w = 0#6)
    exact hkey.trans (if_pos hop)
  · intro (hop : opcodeOf w ≠ 0#6)
    exact hkey.trans (if_neg hop)

end Sys2Proof.Proofs

/-! ## CLASSIFY and the format tag (spec/40_classify.md R53, R55) -/

namespace Sys2Proof.Proofs

open Sys2Proof Sys2Proof.Machine

/-- The R row of CLASSIFY (R52). -/
theorem classify_eq_R_iff (w : Word) : classify w = .R ↔ opcodeOf w = 0#6 := by
  simp only [classify]
  split_ifs with hR hJ
  · simp [hR]
  · simp [hR]
  · simp [hR]

/-- The J rows of CLASSIFY (R52): neither of their opcodes is the one that the R row takes first. -/
theorem classify_eq_J_iff (w : Word) : classify w = .J ↔ opcodeOf w = 2#6 ∨ opcodeOf w = 3#6 := by
  simp only [classify]
  split_ifs with hR hJ
  · simp [hR]
  · simp [hJ]
  · simp [hJ]

/-- I is the tag of what the other two rows leave (R52). -/
theorem classify_eq_I_iff (w : Word) :
    classify w = .I ↔ opcodeOf w ≠ 0#6 ∧ opcodeOf w ≠ 2#6 ∧ opcodeOf w ≠ 3#6 := by
  have hrest : classify w = .I ↔ classify w ≠ .R ∧ classify w ≠ .J := by cases classify w <;> decide
  rw [hrest, ne_eq, ne_eq, classify_eq_R_iff, classify_eq_J_iff, not_or]

/-- Settles O11: the three rows of CLASSIFY, each as an equivalence, and its dependence on the opcode alone. -/
theorem classifySendsEachOpcodeToOneTag : Obligations.ClassifySendsEachOpcodeToOneTag :=
  ⟨fun w => (classify_eq_R_iff w).symm, fun w => (classify_eq_J_iff w).symm, fun w => (classify_eq_I_iff w).symm,
    fun _ _ hop => classify_eq_of_opcodeOf_eq hop, fun w => ⟨classify w, rfl, fun _ h => h.symm⟩⟩

/-- The ports name, by their tag, the variant of the record they form (R55). -/
theorem variantOf_record (o : Outputs) : variantOf o.record = o.tag := by
  unfold Outputs.record
  cases o.tag with
  | R => rfl
  | I => rfl
  | J => rfl

/-- No two tags share a code on the `fmt` port (R39). -/
theorem encodeTag_inj (t u : FormatTag) : encodeTag t = encodeTag u ↔ t = u := by
  cases t <;> cases u <;> decide

/-- The `fmt` port shows the code of a tag exactly where the record is of that tag's variant (R55). -/
theorem fmt_eq_encodeTag_iff (o : Outputs) (t : FormatTag) : o.fmt = encodeTag t ↔ variantOf o.record = t := by
  rw [variantOf_record]
  exact encodeTag_inj o.tag t

/-- The evaluation of a Word drives the tag that CLASSIFY gives (R53). -/
theorem tag_outputsOfRecord_decode (w : Word) : (outputsOfRecord (decode w).record).tag = classify w := by
  rw [← variantOf_record, outputsOfRecord_record, variantOf_decode_record]

/-- Settles O13: the codes 00, 01 and 10 are those of the tags R, I and J. -/
theorem fmtPortAgreesWithTheVariant : Obligations.FmtPortAgreesWithTheVariant := by
  intro w s
  exact ⟨_, exec_eq_driveOutputs (decode w) s, tag_outputsOfRecord_decode w,
    fmt_eq_encodeTag_iff _ .R, fmt_eq_encodeTag_iff _ .I, fmt_eq_encodeTag_iff _ .J⟩

end Sys2Proof.Proofs

/-! ## EXTRACT and the ports it drives (spec/41_extract.md R57–R60) -/

namespace Sys2Proof.Proofs

open Sys2Proof Sys2Proof.Machine Sys2Proof.Laws

/-- The record of the decoded instruction is the one that CLASSIFY and EXTRACT give (R67). -/
theorem decode_record (w : Word) : (decode w).record = decodeRecord w := by
  simp only [decode, instrOfFields_record, decodeRecord, classify]
  split_ifs with hR hJ
  · rfl
  · rfl
  · rfl

/-- An R Word has 26 bits below its opcode, and the R fields cover them. -/
theorem outputsR_fields {w : Word} (hop : opcodeOf w = 0#6) :
    outputsR (rsOf w) (rtOf w) (rdOf w) (shamtOf w) (functOf w) = outputsOf w := by
  have himm : rdOf w ++ shamtOf w ++ functOf w = immOf w := by
    rw [rdOf, shamtOf, functOf, slice_append_slice w 6 5 5]
    exact slice_append_slice w 0 10 6
  have haddr : rsOf w ++ rtOf w ++ rdOf w ++ shamtOf w ++ functOf w = addrOf w := by
    rw [rsOf, rtOf, rdOf, shamtOf, functOf, slice_append_slice w 16 5 5, slice_append_slice w 11 10 5,
      slice_append_slice w 6 15 5]
    exact slice_append_slice w 0 20 6
  simp only [outputsR, outputsOf, himm, haddr, hop, (classify_eq_R_iff w).2 hop]

/-- The I fields cover the Word, and the ports below them are slices of the immediate. -/
theorem outputsI_fields {w : Word} (htag : classify w = .I) :
    outputsI (opcodeOf w) (rsOf w) (rtOf w) (immOf w) = outputsOf w := by
  have haddr : rsOf w ++ rtOf w ++ immOf w = addrOf w := by
    rw [rsOf, rtOf, immOf, slice_append_slice w 16 5 5]
    exact slice_append_slice w 0 10 16
  have hrd : (immOf w).extractLsb' 11 5 = rdOf w := slice_slice w 0 11 5 16 (by decide)
  have hshamt : (immOf w).extractLsb' 6 5 = shamtOf w := slice_slice w 0 6 5 16 (by decide)
  have hfunct : (immOf w).extractLsb' 0 6 = functOf w := slice_slice w 0 0 6 16 (by decide)
  simp only [outputsI, outputsOf, haddr, hrd, hshamt, hfunct, htag]

/-- The ports below a J opcode are slices of the address. -/
theorem outputsJ_fields {w : Word} (htag : classify w = .J) : outputsJ (opcodeOf w) (addrOf w) = outputsOf w := by
  have hrs : (addrOf w).extractLsb' 21 5 = rsOf w := slice_slice w 0 21 5 26 (by decide)
  have hrt : (addrOf w).extractLsb' 16 5 = rtOf w := slice_slice w 0 16 5 26 (by decide)
  have hrd : (addrOf w).extractLsb' 11 5 = rdOf w := slice_slice w 0 11 5 26 (by decide)
  have hshamt : (addrOf w).extractLsb' 6 5 = shamtOf w := slice_slice w 0 6 5 26 (by decide)
  have hfunct : (addrOf w).extractLsb' 0 6 = functOf w := slice_slice w 0 0 6 26 (by decide)
  have himm : (addrOf w).extractLsb' 0 16 = immOf w := slice_slice w 0 0 16 26 (by decide)
  simp only [outputsJ, outputsOf, hrs, hrt, hrd, hshamt, hfunct, himm, htag]

/-- The ports that the decoded record drives are those of the port table (R16, R18). -/
theorem outputsOfRecord_decodeRecord (w : Word) : outputsOfRecord (decodeRecord w) = outputsOf w := by
  rw [decodeRecord]
  cases htag : classify w with
  | R => exact outputsR_fields ((classify_eq_R_iff w).1 htag)
  | I => exact outputsI_fields htag
  | J => exact outputsJ_fields htag

/-- One evaluation of a Word drives the port table of that Word and changes nothing else (R15, R16). -/
theorem exec_decode (w : Word) (s : State) :
    exec (decode w) s = .next { s with outputs := some (outputsOf w) } := by
  rw [exec_eq_driveOutputs, decode_record, outputsOfRecord_decodeRecord, State.driveOutputs]

/-- The record on the ports of a Word is what EXTRACT makes of it under the tag that CLASSIFY gives (R56). -/
theorem record_outputsOf {w : Word} {t : FormatTag} (htag : classify w = t) :
    (outputsOf w).record = extract w t := by
  rw [← outputsOfRecord_decodeRecord, outputsOfRecord_record, decodeRecord, htag]

/-- The row R_FORMAT is the one that opcode 0 selects (R47). -/
theorem decode_of_opcodeOf_eq_zero {w : Word} (hop : opcodeOf w = 0#6) :
    decode w = .rFormat (rsOf w) (rtOf w) (rdOf w) (shamtOf w) (functOf w) := by
  rw [decode, hop]
  rfl

/-- Settles O3: opcode 0 selects the row and the tag R, and the port table gives the five slices. -/
theorem rFormatExtractsItsFields : Obligations.RFormatExtractsItsFields := by
  intro w s (hop : opcodeOf w = 0#6)
  have hrec : (outputsOf w).record = extractR w := record_outputsOf ((classify_eq_R_iff w).2 hop)
  exact ⟨decode_of_opcodeOf_eq_zero hop, outputsOf w, exec_decode w s, rfl, rfl, rfl, rfl, rfl, hrec⟩

/-- The spec's case split on bit 15 is the two's-complement reading of the 16 bits (R60). -/
theorem immediateSigned_eq_toInt (imm : Immediate) : immediateSigned imm = imm.toInt := by
  rw [immediateSigned, BitVec.toInt_eq_msb_cond, BitVec.msb_eq_getLsbD_last]
  rfl

/-- Settles O4: the Words left by opcodes 0, 2 and 3 have the tag I, and the port table gives the four slices. -/
theorem iFormatExtractsItsFields : Obligations.IFormatExtractsItsFields := by
  intro w s hR hJ2 hJ3
  have hrec : (outputsOf w).record = extractI w := record_outputsOf ((classify_eq_I_iff w).2 ⟨hR, hJ2, hJ3⟩)
  exact ⟨outputsOf w, exec_decode w s, rfl, rfl, rfl, rfl, hrec, immediateSigned_eq_toInt (immOf w)⟩

/-- The address is what the mask leaves of the Word (R59). -/
theorem setWidth_addrOf (w : Word) : (addrOf w).setWidth 32 = w &&& 0x03FFFFFF#32 := by
  have hmask : w.toNat &&& 0x03FFFFFF = w.toNat % 2 ^ 26 := Nat.and_two_pow_sub_one_eq_mod w.toNat 26
  apply BitVec.eq_of_toNat_eq
  simp only [addrOf, BitVec.toNat_setWidth, BitVec.extractLsb'_toNat, BitVec.toNat_and, BitVec.toNat_ofNat,
    Nat.shiftRight_zero, Nat.reducePow, Nat.reduceMod, hmask]
  omega

/-- Settles O5: opcodes 2 and 3 give the tag J, and the port table gives the two slices and the byte target. -/
theorem jFormatExtractsItsFields : Obligations.JFormatExtractsItsFields := by
  intro w s hop
  have hrec : (outputsOf w).record = extractJ w := record_outputsOf ((classify_eq_J_iff w).2 hop)
  exact ⟨outputsOf w, exec_decode w s, rfl, rfl, setWidth_addrOf w, rfl, hrec⟩

/-- The range of the signed immediate (R60). -/
theorem immediateSigned_bounds (imm : Immediate) : -32768 ≤ immediateSigned imm ∧ immediateSigned imm ≤ 32767 := by
  have hlo : -2 ^ 15 ≤ imm.toInt := BitVec.le_toInt imm
  have hhi : imm.toInt < 2 ^ 15 := BitVec.toInt_lt
  rw [immediateSigned_eq_toInt]
  omega

/-- Settles O21: the two cases are those of the definition, and the port table puts the raw slice on `imm`. -/
theorem signedImmediateIsTheTwosComplementReading : Obligations.SignedImmediateIsTheTwosComplementReading := by
  constructor
  · intro imm
    obtain ⟨hlo, hhi⟩ := immediateSigned_bounds imm
    exact ⟨fun hbit => if_neg (ne_true_of_eq_false hbit), fun hbit => if_pos hbit, hlo, hhi,
      immediateSigned_eq_toInt imm⟩
  · intro w s
    exact ⟨outputsOf w, exec_decode w s, rfl⟩

end Sys2Proof.Proofs

/-! ## DECODE and the string boundary (spec/42_decode.md R67–R74) -/

namespace Sys2Proof.Proofs

open Sys2Proof Sys2Proof.Machine

/-- Settles O10: the machine drives the port table, and both records are EXTRACT under the tag of CLASSIFY. -/
theorem runningAnInstructionRefinesDecode : Obligations.RunningAnInstructionRefinesDecode := by
  intro w s
  exact ⟨exec_decode w s, rfl, record_outputsOf rfl, decode_record w⟩

/-- Settles O24: the step of a presented Word names no table and no result, so both stand as they were. -/
theorem everyWordDecodesWithoutATable : Obligations.EveryWordDecodesWithoutATable := by
  intro s w rest h
  exact ⟨_, step_of_present h, rfl, rfl, fun _ => step_of_present h⟩

/-- The length check comes before any character is read (R71, R73). -/
theorem parseBits_of_length_ne {s : Str} (hlen : s.length ≠ 32) : parseBits s = .error (.wrongLength s.length) :=
  if_pos hlen

/-- Past the length check, the first character that is no digit is the error (R72). -/
theorem parseBits_of_firstNonBinary_eq_some {s : Str} {i : Nat} (hlen : s.length = 32)
    (hbad : firstNonBinary 0 s = some i) : parseBits s = .error (.nonBinaryChar i) := by
  rw [parseBits, if_neg (not_not_intro hlen), hbad]

/-- Past both checks, the Word is the digits' number (R70). -/
theorem parseBits_of_firstNonBinary_eq_none {s : Str} (hlen : s.length = 32)
    (hgood : firstNonBinary 0 s = none) : parseBits s = .ok (BitVec.ofNat 32 (binaryValue 0 s)) := by
  rw [parseBits, if_neg (not_not_intro hlen), hgood]

/-- The two digits, and no other character (R72). -/
theorem isBinaryDigit_iff (c : Char) : isBinaryDigit c = true ↔ c = '0' ∨ c = '1' := by
  simp only [isBinaryDigit, Bool.or_eq_true, decide_eq_true_eq]

/-- The digit check is the library's search for the first character that is no binary digit. -/
theorem firstNonBinary_eq_findIdx? (start : Nat) (s : Str) :
    firstNonBinary start s = (s.findIdx? fun c => !isBinaryDigit c).map (· + start) := by
  induction s generalizing start with
  | nil => rfl
  | cons c cs ih =>
    cases hc : isBinaryDigit c with
    | false => simp [firstNonBinary, List.findIdx?_cons, hc]
    | true => simp [firstNonBinary, List.findIdx?_cons, hc, ih, Function.comp_def, Nat.add_assoc, Nat.add_comm 1 start]

/-- The lowest bad character is the one reported (R73). -/
theorem firstNonBinary_eq_some {s : Str} {i : Nat} {c : Char} (hi : s[i]? = some c) (hc : ¬ (c = '0' ∨ c = '1'))
    (hbelow : ∀ j, j < i → s[j]? = some '0' ∨ s[j]? = some '1') : firstNonBinary 0 s = some i := by
  obtain ⟨hlt, hget⟩ := List.getElem?_eq_some_iff.1 hi
  have hfind : s.findIdx? (fun c => !isBinaryDigit c) = some i := by
    refine List.findIdx?_eq_some_iff_getElem.2 ⟨hlt, ?_, fun j hj => ?_⟩
    · have hbad : isBinaryDigit c = false := Bool.eq_false_iff.2 (mt (isBinaryDigit_iff c).1 hc)
      simp only [hget, hbad, Bool.not_false]
    · have hjget : s[j]? = some (s[j]'(hj.trans hlt)) := List.getElem?_eq_getElem _
      simpa [isBinaryDigit_iff, hjget] using hbelow j hj
  rw [firstNonBinary_eq_findIdx?, hfind]
  rfl

/-- A string of binary digits passes the digit check (R72). -/
theorem firstNonBinary_eq_none {s : Str} (hdigits : ∀ c, c ∈ s → c = '0' ∨ c = '1') : firstNonBinary 0 s = none := by
  have hfind : s.findIdx? (fun c => !isBinaryDigit c) = none := by
    refine List.findIdx?_eq_none_iff.2 fun c hc => ?_
    rw [(isBinaryDigit_iff c).2 (hdigits c hc), Bool.not_true]
  rw [firstNonBinary_eq_findIdx?, hfind]
  rfl

/-- The leftmost character is the most significant (R30): `acc` and then each digit at its power of two. -/
theorem binaryValue_eq_sum (acc : Nat) (s : Str) :
    binaryValue acc s = acc * 2 ^ s.length +
      ∑ i ∈ Finset.range s.length, (if s[i]? = some '1' then 1 else 0) * 2 ^ (s.length - 1 - i) := by
  induction s generalizing acc with
  | nil => simp [binaryValue]
  | cons c cs ih =>
    have hpow (i : Nat) : cs.length - 1 - i = cs.length - (i + 1) := by omega
    simp only [binaryValue, ih, List.length_cons, Finset.sum_range_succ', List.getElem?_cons_succ,
      List.getElem?_cons_zero, Option.some.injEq, Nat.add_sub_cancel, Nat.sub_zero, hpow]
    ring

/-- The digits of a string make a number of that many bits. -/
theorem binaryValue_lt (acc : Nat) (s : Str) : binaryValue acc s < (acc + 1) * 2 ^ s.length := by
  induction s generalizing acc with
  | nil => simp [binaryValue]
  | cons c cs ih =>
    have hdigit : 2 * acc + (if c = '1' then 1 else 0) + 1 ≤ (acc + 1) * 2 := by split_ifs <;> omega
    calc binaryValue acc (c :: cs)
        < (2 * acc + (if c = '1' then 1 else 0) + 1) * 2 ^ cs.length := ih _
      _ ≤ (acc + 1) * 2 * 2 ^ cs.length := Nat.mul_le_mul_right _ hdigit
      _ = (acc + 1) * 2 ^ (c :: cs).length := by rw [List.length_cons, Nat.pow_succ']; ring

/-- Settles O33: the three outcomes in the order of the checks; 32 digits fit the Word, so their number is the sum. -/
theorem parseBitsChecksThenReadsTheDigits : Obligations.ParseBitsChecksThenReadsTheDigits := by
  intro s
  refine ⟨parseBits_of_length_ne, fun i c hlen hi h0 h1 hbelow => ?_, fun hlen hdigits => ?_⟩
  · exact parseBits_of_firstNonBinary_eq_some hlen (firstNonBinary_eq_some hi (not_or.2 ⟨h0, h1⟩) hbelow)
  · have hlt : binaryValue 0 s < 2 ^ 32 := by simpa [hlen] using binaryValue_lt 0 s
    have hsum := binaryValue_eq_sum 0 s
    rw [hlen, Nat.zero_mul, Nat.zero_add] at hsum
    refine ⟨_, parseBits_of_firstNonBinary_eq_none hlen (firstNonBinary_eq_none hdigits), ?_⟩
    rw [BitVec.toNat_ofNat, Nat.mod_eq_of_lt hlt, hsum]

/-- The turn of a waiting action is that action, from the state without it. -/
theorem hostTurn_of_actions {s : State} {a : HostAction} {rest : List HostAction} (h : s.actions = a :: rest) :
    hostTurn s = hostAct a { s with actions := rest } := by
  simp only [hostTurn, h]

/-- The three actions of the host that take a string end with its error, and the block is not evaluated (R93). -/
theorem step_of_parse_error {s : State} {bits : Str} {rest : List HostAction} {e : MalformedInputError}
    (h : s.actions = .parseBits bits :: rest ∨ s.actions = .decodeBits bits :: rest ∨
      s.actions = .display bits :: rest) (hparse : parseBits bits = .error e) :
    step s = .next { s with actions := rest, results := s.results ++ [.failed (.malformedInput e)] } := by
  have hturn : hostTurn s = .done ({ s with actions := rest }.fail (.malformedInput e)) := by
    rcases h with h | h | h
    · simp only [hostTurn_of_actions h, hostAct, hparse]
    · simp only [hostTurn_of_actions h, hostAct, parseThen, hparse]
    · simp only [hostTurn_of_actions h, hostAct, parseThen, hparse]
  exact step_of_done hturn

/-- Settles O36: the length check alone ends each of the three actions. -/
theorem wrongLengthIsRefused : Obligations.WrongLengthIsRefused := by
  intro s bits rest hlen h
  exact step_of_parse_error h (parseBits_of_length_ne hlen)

/-- The first half of the decode of a string: its Word is evaluated, and the read of the record is next (R74). -/
theorem step_of_decodeBits {s : State} {bits : Str} {w : Word} {rest : List HostAction}
    (h : s.actions = .decodeBits bits :: rest) (hparse : parseBits bits = .ok w) :
    step s = .next { s with word := some w, outputs := some (outputsOf w), actions := .readRecord :: rest } := by
  have hturn : hostTurn s = .evaluate w ({ s with word := some w, actions := .readRecord :: rest }) := by
    simp only [hostTurn_of_actions h, hostAct, parseThen, hparse]
    rfl
  rw [step_of_evaluate hturn, decode_record, outputsOfRecord_decodeRecord, State.driveOutputs]

/-- The second half: the record that the ports form is returned (R19). -/
theorem step_of_readRecord {s : State} {o : Outputs} {rest : List HostAction}
    (h : s.actions = .readRecord :: rest) (ho : s.outputs = some o) :
    step s = .next { s with actions := rest, results := s.results ++ [.record o.record] } := by
  have hturn : hostTurn s = .done ({ s with actions := rest }.returnResult (.record o.record)) := by
    simp only [hostTurn_of_actions h, hostAct, readOutputs, ho]
  exact step_of_done hturn

/-- Settles O37: an error ends the action at once; a Word is evaluated, and its record is read from the ports. -/
theorem decodeOfAStringIsParseThenDecode : Obligations.DecodeOfAStringIsParseThenDecode := by
  intro s bits rest h
  refine ⟨fun e hparse => step_of_parse_error (.inr (.inl h)) hparse, fun w hparse => ?_⟩
  have hrec : (outputsOf w).record = decodeRecord w := record_outputsOf rfl
  refine ⟨_, step_of_decodeBits h hparse, ?_⟩
  rw [step_of_readRecord rfl rfl, hrec]

end Sys2Proof.Proofs

/-! ## RESOLVE (spec/45_host_render.md R75, R79, R80) -/

namespace Sys2Proof.Proofs

open Sys2Proof Sys2Proof.Machine

section resolveIn
variable {κ : Type} [DecidableEq κ] {table : TableId} {t : Table κ} {key : κ} {missing : NameNotFound}
  {rows : List (κ × Str)}

/-- R80. -/
theorem resolveIn_of_unavailable {f : ConfigFault} (ht : t = .unavailable f) :
    resolveIn table t key missing = .error (.configuration ⟨table, f⟩) := by
  rw [ht, resolveIn]

/-- R79. -/
theorem resolveIn_of_lookupRow_eq_none (ht : t = .loaded rows) (hkey : lookupRow key rows = none) :
    resolveIn table t key missing = .error (.nameNotFound missing) := by
  simp only [ht, resolveIn, hkey]

/-- R75: the answer is the table's own name for the key. -/
theorem resolveIn_of_lookupRow_eq_some {name : Str} (ht : t = .loaded rows) (hkey : lookupRow key rows = some name) :
    resolveIn table t key missing = .ok name := by
  simp only [ht, resolveIn, hkey]

/-- A key that the rows name resolves. -/
theorem exists_resolveIn_eq_ok (ht : t = .loaded rows) (hkey : lookupRow key rows ≠ none) :
    ∃ name, resolveIn table t key missing = .ok name := by
  obtain ⟨name, hname⟩ := Option.ne_none_iff_exists'.1 hkey
  exact ⟨name, resolveIn_of_lookupRow_eq_some ht hname⟩

end resolveIn

/-- The step of a RESOLVE returns the answer or the error, and changes nothing else (R75, R92). -/
theorem step_of_resolve {s : State} {q : Query} {rest : List HostAction} (h : s.actions = .resolve q :: rest) :
    step s = .next (returnOrFail .name (resolve s.tables q) { s with actions := rest }) := by
  have hturn : hostTurn s = .done (returnOrFail .name (resolve s.tables q) { s with actions := rest }) := by
    rw [hostTurn_of_actions h, hostAct]
  exact step_of_done hturn

/-- The three outcomes of a RESOLVE, for a query that is the lookup of `key` in the table `t`. -/
theorem step_of_resolve_eq_resolveIn {κ : Type} [DecidableEq κ] {s : State} {q : Query} {rest : List HostAction}
    {table : TableId} {t : Table κ} {key : κ} {missing : NameNotFound} (h : s.actions = .resolve q :: rest)
    (hq : resolve s.tables q = resolveIn table t key missing) :
    (∀ f, t = .unavailable f → step s = .next { s with
      actions := rest, results := s.results ++ [.failed (.render (.configuration ⟨table, f⟩))] }) ∧
    (∀ rows, t = .loaded rows → lookupRow key rows = none → step s = .next { s with
      actions := rest, results := s.results ++ [.failed (.render (.nameNotFound missing))] }) ∧
    (∀ rows name, t = .loaded rows → lookupRow key rows = some name → step s = .next { s with
      actions := rest, results := s.results ++ [.name name] }) := by
  rw [step_of_resolve h, hq]
  refine ⟨fun f ht => ?_, fun rows ht hkey => ?_, fun rows name ht hkey => ?_⟩
  · rw [resolveIn_of_unavailable ht]
    rfl
  · rw [resolveIn_of_lookupRow_eq_none ht hkey]
    rfl
  · rw [resolveIn_of_lookupRow_eq_some ht hkey]
    rfl

/-- Settles O40: each of the three queries is, by definition, a lookup in the table that it names. -/
theorem resolveReadsTheNamedTable : Obligations.ResolveReadsTheNamedTable := by
  intro s rest
  exact ⟨fun _ _ h => step_of_resolve_eq_resolveIn h rfl, fun _ h => step_of_resolve_eq_resolveIn h rfl,
    fun _ h => step_of_resolve_eq_resolveIn h rfl⟩

end Sys2Proof.Proofs

/-! ## RENDER: the tables, then the lookups in order, then the text (spec/45_host_render.md R82–R87) -/

namespace Sys2Proof.Proofs

open Sys2Proof Sys2Proof.Machine

section render
variable {t : HostTables} {r : Record} {f : ConfigFault}

/-- RENDER goes on to its lookups exactly where both tables that it needs are available (R87 step 1). -/
theorem configurationFault?_eq_none_iff :
    configurationFault? t r = none ↔ instructionFault? t r = none ∧ registerFault? t r = none := by
  unfold configurationFault?
  cases instructionFault? t r with
  | none => cases registerFault? t r <;> simp
  | some f => cases registerFault? t r <;> simp

/-- Past the configuration check RENDER is its lookups and its text (R87 steps 2 and 3). -/
theorem render_eq_renderResolved (hinstr : instructionFault? t r = none) (hreg : registerFault? t r = none) :
    render t r = renderResolved t r := by
  rw [render, configurationFault?_eq_none_iff.2 ⟨hinstr, hreg⟩]

/-- A fault of either table ends RENDER with a ConfigurationError; the error's fault may be the other table's
(R87 step 1). -/
theorem exists_render_eq_configuration (h : instructionFault? t r = some f ∨ registerFault? t r = some f) :
    ∃ e, render t r = .error (.configuration e) := by
  cases hconf : configurationFault? t r with
  | some e => exact ⟨e, by rw [render, hconf]⟩
  | none =>
    obtain ⟨hinstr, hreg⟩ := configurationFault?_eq_none_iff.1 hconf
    simp [hinstr, hreg] at h

/-- Where the template needs no other table, the fault reported is the instruction table's (R80). -/
theorem render_of_instructionFault (hinstr : instructionFault? t r = some f) (hreg : registerFault? t r = none) :
    render t r = .error (.configuration ⟨.instructionTable, f⟩) := by
  simp only [render, configurationFault?, hinstr, hreg]

end render

section loaded
variable {t : HostTables} {regs : List (RegCode × Str)}

/-- An R record needs the function-code column and the register table (R87, D14). -/
theorem render_r_of_loaded {names : List (FunctionCode × Str)} (hregs : t.regTable = .loaded regs)
    (hnames : t.mnFunct = .loaded names) (rs rt rd : RegCode) (shamt : ShiftAmount) (funct : FunctionCode) :
    render t (.r rs rt rd shamt funct) = renderResolved t (.r rs rt rd shamt funct) :=
  render_eq_renderResolved (congrArg Table.fault? hnames) (congrArg Table.fault? hregs)

/-- An I record needs the opcode column and the register table (R87, D14). -/
theorem render_i_of_loaded {names : List (Opcode × Str)} (hregs : t.regTable = .loaded regs)
    (hnames : t.mnOpcode = .loaded names) (opcode : Opcode) (rs rt : RegCode) (imm : Immediate) :
    render t (.i opcode rs rt imm) = renderResolved t (.i opcode rs rt imm) :=
  render_eq_renderResolved (congrArg Table.fault? hnames) (congrArg Table.fault? hregs)

/-- A J record needs the opcode column alone (R85, D14). -/
theorem render_j_of_loaded {names : List (Opcode × Str)} (hnames : t.mnOpcode = .loaded names) (opcode : Opcode)
    (addr : Address) : render t (.j opcode addr) = renderResolved t (.j opcode addr) :=
  render_eq_renderResolved (congrArg Table.fault? hnames) rfl

end loaded

/-- What stands before each detail name, by the two values of the parameter (D15). -/
theorem detailNamePrefix_text {d : DetailNamePrefix} {p : Str}
    (hp : d = .bare ∧ p = [] ∨ d = .dollar ∧ p = ['$']) : d.text = p := by
  obtain ⟨rfl, rfl⟩ | ⟨rfl, rfl⟩ := hp
  · rfl
  · rfl

section templates
variable (t : HostTables) (rs rt rd : RegCode)

/-- RENDER_R_REG: the lookups in their order, then the text (R82, R87). -/
theorem renderResolved_registerForm (funct : FunctionCode) :
    renderResolved t (.r rs rt rd 0#5 funct) = (do
      let mn ← resolve t (.functionCode funct)
      let nd ← resolve t (.register .rd rd)
      let ns ← resolve t (.register .rs rs)
      let nt ← resolve t (.register .rt rt)
      return textRReg t.detailNamePrefix.text mn ns nt nd rs rt rd) := by
  simp only [renderResolved, mnemonicQuery, if_pos]

/-- RENDER_R_SHIFT: the lookups in their order, none of them of `rs`, then the text (R83, R87). -/
theorem renderResolved_shiftForm {shamt : ShiftAmount} (funct : FunctionCode) (hshamt : shamt ≠ 0#5) :
    renderResolved t (.r rs rt rd shamt funct) = (do
      let mn ← resolve t (.functionCode funct)
      let nd ← resolve t (.register .rd rd)
      let nt ← resolve t (.register .rt rt)
      return textRShift t.detailNamePrefix.text mn nt nd rt rd shamt) := by
  simp only [renderResolved, mnemonicQuery, if_neg hshamt]

/-- RENDER_I: the lookups in their order, then the text (R84, R87). -/
theorem renderResolved_immediateForm (opcode : Opcode) (imm : Immediate) :
    renderResolved t (.i opcode rs rt imm) = (do
      let mn ← resolve t (.opcode opcode)
      let nt ← resolve t (.register .rt rt)
      let ns ← resolve t (.register .rs rs)
      return textI t.detailNamePrefix.text mn ns nt rs rt imm) := by
  simp only [renderResolved, mnemonicQuery]

/-- RENDER_J: the one lookup, then the text (R85). -/
theorem renderResolved_jumpForm (opcode : Opcode) (addr : Address) :
    renderResolved t (.j opcode addr) = (do
      let mn ← resolve t (.opcode opcode)
      return textJ mn addr) := by
  simp only [renderResolved, mnemonicQuery]

end templates

/-- Settles O46: with both tables loaded, the first of the four lookups to fail gives the error. -/
theorem renderRegisterForm : Obligations.RenderRegisterForm := by
  intro t rs rt rd funct
  refine ⟨fun regs names hregs hnames => ?_, fun f hf =>
    exists_render_eq_configuration (hf.imp (congrArg Table.fault?) (congrArg Table.fault?))⟩
  rw [render_r_of_loaded hregs hnames, renderResolved_registerForm]
  simp only [resolve]
  refine ⟨fun mn ns nt nd p hmn hnd hns hnt hp => ?_, fun hmn => ?_, fun hmn hnd => ?_, fun hmn hnd hns => ?_,
    fun hmn hnd hns hnt => ?_⟩
  · rw [resolveIn_of_lookupRow_eq_some hnames hmn, resolveIn_of_lookupRow_eq_some hregs hnd,
      resolveIn_of_lookupRow_eq_some hregs hns, resolveIn_of_lookupRow_eq_some hregs hnt, detailNamePrefix_text hp]
    rfl
  · rw [resolveIn_of_lookupRow_eq_none hnames hmn]
    rfl
  · obtain ⟨mn, hmn⟩ := exists_resolveIn_eq_ok hnames hmn
    rw [hmn, resolveIn_of_lookupRow_eq_none hregs hnd]
    rfl
  · obtain ⟨mn, hmn⟩ := exists_resolveIn_eq_ok hnames hmn
    obtain ⟨nd, hnd⟩ := exists_resolveIn_eq_ok hregs hnd
    rw [hmn, hnd, resolveIn_of_lookupRow_eq_none hregs hns]
    rfl
  · obtain ⟨mn, hmn⟩ := exists_resolveIn_eq_ok hnames hmn
    obtain ⟨nd, hnd⟩ := exists_resolveIn_eq_ok hregs hnd
    obtain ⟨ns, hns⟩ := exists_resolveIn_eq_ok hregs hns
    rw [hmn, hnd, hns, resolveIn_of_lookupRow_eq_none hregs hnt]
    rfl

/-- Settles O47: with both tables loaded, the first of the three lookups to fail gives the error; neither the tables
that the template needs nor its lookups depend on `rs`. -/
theorem renderShiftForm : Obligations.RenderShiftForm := by
  intro t rs rt rd shamt funct hshamt
  refine ⟨fun regs names hregs hnames => ?_, fun f hf =>
    exists_render_eq_configuration (hf.imp (congrArg Table.fault?) (congrArg Table.fault?)), fun rs' => ?_⟩
  · rw [render_r_of_loaded hregs hnames, renderResolved_shiftForm t rs rt rd funct hshamt]
    simp only [resolve]
    refine ⟨fun mn nt nd p hmn hnd hnt hp => ?_, fun hmn => ?_, fun hmn hnd => ?_, fun hmn hnd hnt => ?_⟩
    · rw [resolveIn_of_lookupRow_eq_some hnames hmn, resolveIn_of_lookupRow_eq_some hregs hnd,
        resolveIn_of_lookupRow_eq_some hregs hnt, detailNamePrefix_text hp]
      rfl
    · rw [resolveIn_of_lookupRow_eq_none hnames hmn]
      rfl
    · obtain ⟨mn, hmn⟩ := exists_resolveIn_eq_ok hnames hmn
      rw [hmn, resolveIn_of_lookupRow_eq_none hregs hnd]
      rfl
    · obtain ⟨mn, hmn⟩ := exists_resolveIn_eq_ok hnames hmn
      obtain ⟨nd, hnd⟩ := exists_resolveIn_eq_ok hregs hnd
      rw [hmn, hnd, resolveIn_of_lookupRow_eq_none hregs hnt]
      rfl
  · have hconf : configurationFault? t (.r rs' rt rd shamt funct) = configurationFault? t (.r rs rt rd shamt funct) :=
      rfl
    rw [render, render, hconf, renderResolved_shiftForm t rs' rt rd funct hshamt,
      renderResolved_shiftForm t rs rt rd funct hshamt]

/-- Settles O48: with both tables loaded, the first of the three lookups to fail gives the error; the number shown is
the two's-complement reading of the immediate (R60). -/
theorem renderImmediateForm : Obligations.RenderImmediateForm := by
  intro t opcode rs rt imm
  refine ⟨fun regs names hregs hnames => ?_, fun f hf =>
    exists_render_eq_configuration (hf.imp (congrArg Table.fault?) (congrArg Table.fault?))⟩
  rw [render_i_of_loaded hregs hnames, renderResolved_immediateForm]
  simp only [resolve]
  refine ⟨fun mn ns nt p hmn hnt hns hp => ?_, fun hmn => ?_, fun hmn hnt => ?_, fun hmn hnt hns => ?_⟩
  · rw [resolveIn_of_lookupRow_eq_some hnames hmn, resolveIn_of_lookupRow_eq_some hregs hnt,
      resolveIn_of_lookupRow_eq_some hregs hns, detailNamePrefix_text hp, ← immediateSigned_eq_toInt]
    rfl
  · rw [resolveIn_of_lookupRow_eq_none hnames hmn]
    rfl
  · obtain ⟨mn, hmn⟩ := exists_resolveIn_eq_ok hnames hmn
    rw [hmn, resolveIn_of_lookupRow_eq_none hregs hnt]
    rfl
  · obtain ⟨mn, hmn⟩ := exists_resolveIn_eq_ok hnames hmn
    obtain ⟨nt, hnt⟩ := exists_resolveIn_eq_ok hregs hnt
    rw [hmn, hnt, resolveIn_of_lookupRow_eq_none hregs hns]
    rfl

/-- The two zero bits joined below the address make it four times as large (R62). -/
theorem jumpTarget_toNat (addr : Address) : (jumpTarget addr).toNat = addr.toNat * 4 := by
  rw [jumpTarget, BitVec.toNat_append, BitVec.toNat_ofNat, Nat.zero_mod, Nat.or_zero, Nat.shiftLeft_eq]

/-- Settles O49: the opcode's name is the one lookup, and the register table is read by no part of RENDER_J. -/
theorem renderJumpForm : Obligations.RenderJumpForm := by
  intro t opcode addr
  refine ⟨fun names mn hnames hmn => ?_, jumpTarget_toNat addr, fun names hnames hmn => ?_,
    fun f hf => render_of_instructionFault (congrArg Table.fault? hf) rfl, fun regTable => rfl⟩
  · rw [render_j_of_loaded hnames, renderResolved_jumpForm, resolve,
      resolveIn_of_lookupRow_eq_some hnames hmn]
    rfl
  · rw [render_j_of_loaded hnames, renderResolved_jumpForm, resolve,
      resolveIn_of_lookupRow_eq_none hnames hmn]
    rfl

end Sys2Proof.Proofs

/-! ## The errors that a step returns (spec/60_exceptions.md R89–R91) -/

namespace Sys2Proof.Proofs

open Sys2Proof Sys2Proof.Machine

/-- What the host's operations have returned once a turn is over; nothing where it is stuck. -/
def resultsAfter : Turn → Option (List HostResult)
  | .evaluate _ s => some s.results
  | .done s => some s.results
  | .stuck _ => none

/-- The evaluation of a Word returns nothing, so a step returns what its turn returned (R89). -/
theorem resultsAfter_hostTurn {s t : State} (h : step s = .next t) : resultsAfter (hostTurn s) = some t.results := by
  cases hturn : hostTurn s with
  | evaluate w s' =>
    obtain rfl : s'.driveOutputs (outputsOfRecord (decode w).record) = t := by
      simpa only [step_of_evaluate hturn, Host.Outcome.next.injEq] using h
    rfl
  | done s' =>
    obtain rfl : s' = t := by simpa only [step_of_done hturn, Host.Outcome.next.injEq] using h
    rfl
  | stuck f => simp [step_of_stuck hturn] at h

section
variable (s : State) (e : HostError)

/-- A string action returns an error where PARSE_BITS refuses the string; another string goes on to the block (R74). -/
theorem resultsAfter_parseThen_eq_failed_iff (bits : Str) (next : HostAction) :
    resultsAfter (parseThen bits next s) = some (s.results ++ [.failed e]) ↔
      ∃ m, parseBits bits = .error m ∧ e = .malformedInput m := by
  obtain ⟨m, hparse, hturn⟩ | ⟨w, hparse, hturn⟩ := parseThen_cases bits next s
  · simp [hturn, hparse, resultsAfter, eq_comm]
  · simp [hturn, hparse, resultsAfter]

/-- An operation of the lookups returns an error where it fails; its answer is no error (R92). -/
theorem results_returnOrFail_eq_failed_iff {ok : Str → HostResult} (hok : ∀ text, ok text ≠ .failed e)
    (r : Except RenderError Str) :
    (returnOrFail ok r s).results = s.results ++ [.failed e] ↔ ∃ re, r = .error re ∧ e = .render re := by
  cases r with
  | error re => simp [returnOrFail, eq_comm]
  | ok text => simp [returnOrFail, hok text]

/-- A read of the outputs returns what is made of them, and there must be some (R26). -/
theorem resultsAfter_readOutputs_eq_some_iff (use : Outputs → State) (l : List HostResult) :
    resultsAfter (readOutputs use s) = some l ↔ ∃ o, s.outputs = some o ∧ (use o).results = l := by
  obtain ⟨ho, hturn⟩ | ⟨o, ho, hturn⟩ := readOutputs_cases use s
  · simp [hturn, ho, resultsAfter]
  · simp [hturn, ho, resultsAfter]

/-- Each action of the host returns exactly the errors that the taxonomy gives it (R89, R90). -/
theorem resultsAfter_hostAct_eq_failed_iff (a : HostAction) :
    resultsAfter (hostAct a s) = some (s.results ++ [.failed e]) ↔ ReturnsError s a e := by
  cases a with
  | provideTables tables => simp [hostAct, resultsAfter, ReturnsError]
  | present w => simp [hostAct, presentWord, resultsAfter, ReturnsError]
  | parseBits bits =>
    rw [hostAct, ReturnsError]
    cases parseBits bits with
    | error m => simp [resultsAfter, eq_comm]
    | ok w => simp [resultsAfter]
  | decodeBits bits => exact resultsAfter_parseThen_eq_failed_iff s e bits .readRecord
  | display bits => exact resultsAfter_parseThen_eq_failed_iff s e bits .render
  | readPorts => simp [hostAct, resultsAfter_readOutputs_eq_some_iff, ReturnsError]
  | readRecord => simp [hostAct, resultsAfter_readOutputs_eq_some_iff, ReturnsError]
  | resolve q =>
    have hname : ∀ name, HostResult.name name ≠ .failed e := by simp
    exact Option.some_inj.trans (results_returnOrFail_eq_failed_iff s e hname (resolve s.tables q))
  | render =>
    have htext : ∀ text, HostResult.text text ≠ .failed e := by simp
    simp only [hostAct, resultsAfter_readOutputs_eq_some_iff, results_returnOrFail_eq_failed_iff s e htext,
      ReturnsError, exists_and_left]

/-- With no action left no error is returned: the Word on the port is evaluated again, or there is none (log 4). -/
theorem resultsAfter_hostTurn_of_no_actions (h : s.actions = []) :
    resultsAfter (hostTurn s) ≠ some (s.results ++ [.failed e]) := by
  unfold hostTurn
  cases hword : s.word with
  | none => simp [h, resultsAfter]
  | some w => simp [h, resultsAfter]

end

/-- Settles O56: the step returns what its turn returned, and the turn is the host's oldest action, if there is one. -/
theorem onlyFailingHostOperationsReturnErrors : Obligations.OnlyFailingHostOperationsReturnErrors := by
  intro s t e hstep
  rw [← Option.some_inj, ← resultsAfter_hostTurn hstep]
  cases hactions : s.actions with
  | nil => simp [resultsAfter_hostTurn_of_no_actions s e hactions]
  | cons a rest =>
    -- The cause of an error reads the outputs and the tables, which taking the action leaves as they are.
    have hact : resultsAfter (hostTurn s) = some (s.results ++ [.failed e]) ↔ ReturnsError s a e := by
      rw [hostTurn_of_actions hactions]
      exact resultsAfter_hostAct_eq_failed_iff { s with actions := rest } e a
    simp [hact]

end Sys2Proof.Proofs

/-! ## Decode and encode agree (spec/30_encoding.md section 1; spec/41_extract.md R64) -/

namespace Sys2Proof.Proofs

open Sys2Proof Sys2Proof.Machine Sys2Proof.Laws

/-- The opcode and the 26 bits below it make up the Word (R36). -/
theorem opcodeOf_append_addrOf (w : Word) : opcodeOf w ++ addrOf w = w :=
  (slice_append_slice w 0 6 26).trans (slice_all w)

/-- The fields of the I layout (R41), with no bit between them. -/
theorem opcodeOf_append_fieldsI (w : Word) : opcodeOf w ++ rsOf w ++ rtOf w ++ immOf w = w := by
  rw [opcodeOf, rsOf, rtOf, immOf, slice_append_slice w 21 6 5, slice_append_slice w 16 11 5]
  exact (slice_append_slice w 0 16 16).trans (slice_all w)

/-- The fields of the R layout (R40), with no bit between them. -/
theorem opcodeOf_append_fieldsR (w : Word) :
    opcodeOf w ++ rsOf w ++ rtOf w ++ rdOf w ++ shamtOf w ++ functOf w = w := by
  rw [opcodeOf, rsOf, rtOf, rdOf, shamtOf, functOf, slice_append_slice w 21 6 5, slice_append_slice w 16 11 5,
    slice_append_slice w 11 16 5, slice_append_slice w 6 21 5]
  exact (slice_append_slice w 0 26 6).trans (slice_all w)

/-- The record of a Word reassembles to it, in each of the three layouts (R64). -/
theorem reassemble_decodeRecord (w : Word) : (decodeRecord w).reassemble = w := by
  rw [decodeRecord]
  cases htag : classify w with
  | R =>
    rw [extract, extractR, Record.reassemble, ← (classify_eq_R_iff w).1 htag]
    exact opcodeOf_append_fieldsR w
  | I => exact opcodeOf_append_fieldsI w
  | J => exact opcodeOf_append_addrOf w

/-- Settles O18: a Word is recovered from its record, so no two Words share one. -/
theorem recordReassemblesToItsWord : Obligations.RecordReassemblesToItsWord :=
  ⟨reassemble_decodeRecord, fun _ _ h => Function.LeftInverse.injective reassemble_decodeRecord h⟩

/-- Settles O17: the decoded instruction has the record of the Word, and that record reassembles to it. -/
theorem encodeOfDecodeIsTheWord : Obligations.EncodeOfDecodeIsTheWord := by
  intro w
  rw [encode, decode_record, reassemble_decodeRecord]

/-- The middle one of three joined parts, as a slice. -/
theorem slice_append_middle {a k n : Nat} (x : BitVec a) (y : BitVec k) (z : BitVec n) :
    (x ++ y ++ z).extractLsb' n k = y :=
  (slice_append_high (x ++ y) z 0 k).trans BitVec.extractLsb'_append_eq_right

/-- The R layout puts each field where EXTRACT_R reads it (R40, R57). -/
theorem decodeRecord_reassemble_r (rs rt rd : RegCode) (shamt : ShiftAmount) (funct : FunctionCode) :
    decodeRecord (Record.r rs rt rd shamt funct).reassemble = .r rs rt rd shamt funct := by
  rw [Record.reassemble]
  generalize hw : (0#6 ++ rs ++ rt ++ rd ++ shamt ++ funct : Word) = w
  have hop : opcodeOf w = 0#6 := by
    rw [← hw, opcodeOf]
    exact (slice_append_high _ funct 20 6).trans ((slice_append_high _ shamt 15 6).trans
      ((slice_append_high _ rd 10 6).trans ((slice_append_high _ rt 5 6).trans BitVec.extractLsb'_append_eq_left)))
  have hrs : rsOf w = rs := by
    rw [← hw, rsOf]
    exact (slice_append_high _ funct 15 5).trans ((slice_append_high _ shamt 10 5).trans
      ((slice_append_high _ rd 5 5).trans (slice_append_middle 0#6 rs rt)))
  have hrt : rtOf w = rt := by
    rw [← hw, rtOf]
    exact (slice_append_high _ funct 10 5).trans ((slice_append_high _ shamt 5 5).trans
      (slice_append_middle (0#6 ++ rs) rt rd))
  have hrd : rdOf w = rd := by
    rw [← hw, rdOf]
    exact (slice_append_high _ funct 5 5).trans (slice_append_middle (0#6 ++ rs ++ rt) rd shamt)
  have hshamt : shamtOf w = shamt := by
    rw [← hw, shamtOf]
    exact slice_append_middle (0#6 ++ rs ++ rt ++ rd) shamt funct
  have hfunct : functOf w = funct := by
    rw [← hw, functOf]
    exact BitVec.extractLsb'_append_eq_right
  rw [decodeRecord, (classify_eq_R_iff w).2 hop, extract, extractR, hrs, hrt, hrd, hshamt, hfunct]

/-- The I layout puts each field where EXTRACT_I reads it (R41, R58). -/
theorem decodeRecord_reassemble_i {opcode : Opcode} (hopcode : opcode ≠ 0#6 ∧ opcode ≠ 2#6 ∧ opcode ≠ 3#6)
    (rs rt : RegCode) (imm : Immediate) :
    decodeRecord (Record.i opcode rs rt imm).reassemble = .i opcode rs rt imm := by
  rw [Record.reassemble]
  generalize hw : (opcode ++ rs ++ rt ++ imm : Word) = w
  have hop : opcodeOf w = opcode := by
    rw [← hw, opcodeOf]
    exact (slice_append_high _ imm 10 6).trans ((slice_append_high _ rt 5 6).trans BitVec.extractLsb'_append_eq_left)
  have hrs : rsOf w = rs := by
    rw [← hw, rsOf]
    exact (slice_append_high _ imm 5 5).trans (slice_append_middle opcode rs rt)
  have hrt : rtOf w = rt := by
    rw [← hw, rtOf]
    exact slice_append_middle (opcode ++ rs) rt imm
  have himm : immOf w = imm := by
    rw [← hw, immOf]
    exact BitVec.extractLsb'_append_eq_right
  rw [decodeRecord, (classify_eq_I_iff w).2 (hop ▸ hopcode), extract, extractI, hop, hrs, hrt, himm]

/-- The J layout puts each field where EXTRACT_J reads it (R42, R59). -/
theorem decodeRecord_reassemble_j {opcode : Opcode} (hopcode : opcode = 2#6 ∨ opcode = 3#6) (addr : Address) :
    decodeRecord (Record.j opcode addr).reassemble = .j opcode addr := by
  rw [Record.reassemble]
  generalize hw : (opcode ++ addr : Word) = w
  have hop : opcodeOf w = opcode := by
    rw [← hw, opcodeOf]
    exact BitVec.extractLsb'_append_eq_left
  have haddr : addrOf w = addr := by
    rw [← hw, addrOf]
    exact BitVec.extractLsb'_append_eq_right
  rw [decodeRecord, (classify_eq_J_iff w).2 (hop ▸ hopcode), extract, extractJ, hop, haddr]

/-- What makes an I record well formed (R58). -/
theorem wellFormed_i_iff (opcode : Opcode) (rs rt : RegCode) (imm : Immediate) :
    (Record.i opcode rs rt imm).wellFormed = true ↔ opcode ≠ 0#6 ∧ opcode ≠ 2#6 ∧ opcode ≠ 3#6 := by
  simp only [Record.wellFormed, Bool.and_eq_true, decide_eq_true_eq, and_assoc]

/-- What makes a J record well formed (R59). -/
theorem wellFormed_j_iff (opcode : Opcode) (addr : Address) :
    (Record.j opcode addr).wellFormed = true ↔ opcode = 2#6 ∨ opcode = 3#6 := by
  simp only [Record.wellFormed, Bool.or_eq_true, decide_eq_true_eq]

/-- A record with an opcode of its own format is what its Word decodes to. -/
theorem decodeRecord_reassemble {r : Record} (h : r.wellFormed = true) : decodeRecord r.reassemble = r := by
  cases r with
  | r rs rt rd shamt funct => exact decodeRecord_reassemble_r rs rt rd shamt funct
  | i opcode rs rt imm => exact decodeRecord_reassemble_i ((wellFormed_i_iff opcode rs rt imm).1 h) rs rt imm
  | j opcode addr => exact decodeRecord_reassemble_j ((wellFormed_j_iff opcode addr).1 h) addr

/-- DECODE gives each opcode its own format (R58, R59 Operands). -/
theorem wellFormed_decodeRecord (w : Word) : (decodeRecord w).wellFormed = true := by
  rw [decodeRecord]
  cases htag : classify w with
  | R => rfl
  | I => exact (wellFormed_i_iff _ _ _ _).2 ((classify_eq_I_iff w).1 htag)
  | J => exact (wellFormed_j_iff _ _).2 ((classify_eq_J_iff w).1 htag)

/-- Settles O19: a record of DECODE is well formed, and a well-formed record is what its own Word decodes to. -/
theorem decodeReachesExactlyTheWellFormedRecords : Obligations.DecodeReachesExactlyTheWellFormedRecords := by
  intro r
  constructor
  · rintro ⟨w, rfl⟩
    exact wellFormed_decodeRecord w
  · intro h
    exact ⟨r.reassemble, decodeRecord_reassemble h⟩

/-- The row that a record's opcode selects, with the record's fields. -/
def instrOfRecord : Record → Instr
  | .r rs rt rd shamt funct => .rFormat rs rt rd shamt funct
  | .i opcode rs rt imm => instrOfFields opcode rs rt 0 0 0 imm 0
  | .j opcode addr => instrOfFields opcode 0 0 0 0 0 0 addr

/-- An instruction is recovered from its record, row by row of the opcode table. -/
theorem instrOfRecord_record (i : Instr) : instrOfRecord i.record = i := by
  cases i <;> rfl

/-- Each row's record carries an opcode of the row's format, row by row of the opcode table. -/
theorem wellFormed_record (i : Instr) : i.record.wellFormed = true := by
  cases i <;> rfl

/-- Settles O16: both have the record of `i`, and no two instructions share a record. -/
theorem decodeOfEncodeIsTheInstruction : Obligations.DecodeOfEncodeIsTheInstruction := by
  intro i _
  have hrec : (decode (encode i)).record = i.record := by
    rw [decode_record, encode, decodeRecord_reassemble (wellFormed_record i)]
  exact Function.LeftInverse.injective instrOfRecord_record hrec

/-- The mask of the opcode table keeps the opcode, at its place (spec/30_encoding.md section 3). -/
theorem and_opcodeMask (w : Word) : w &&& 0xFC000000#32 = (opcodeOf w).setWidth 32 <<< 26 := by
  have hmask : 0xFC000000#32 = BitVec.allOnes 32 <<< 26 := by decide
  apply BitVec.eq_of_getLsbD_eq
  intro i hi
  rw [hmask, opcodeOf]
  simp only [BitVec.getLsbD_and, BitVec.getLsbD_shiftLeft, BitVec.getLsbD_allOnes, BitVec.getLsbD_setWidth,
    BitVec.getLsbD_extractLsb']
  by_cases hlow : i < 26
  · simp [hlow]
  · have hbit : 26 + (i - 26) = i := by omega
    have hoff : i - 26 < 6 := by omega
    have hoff' : i - 26 < 32 := by omega
    simp [hlow, hi, hbit, hoff, hoff']

/-- Two rows of the opcode table match different Words. -/
theorem opcodeMatch_inj {k k' : Opcode} (h : k'.setWidth 32 <<< 26 = k.setWidth 32 <<< 26) : k' = k := by
  have hnat := congrArg BitVec.toNat h
  simp only [BitVec.toNat_shiftLeft, BitVec.toNat_setWidth, Nat.shiftLeft_eq] at hnat
  apply BitVec.eq_of_toNat_eq
  omega

/-- Settles O15: the masked Word is the match of its own opcode, and the decoded instruction's Word is that Word. -/
theorem exactlyOneTableRowMatchesEachWord : Obligations.ExactlyOneTableRowMatchesEachWord := by
  intro w
  refine ⟨opcodeOf w, fun k' => ?_, ?_⟩
  · rw [and_opcodeMask]
    exact ⟨fun h => opcodeMatch_inj h.symm, fun h => h ▸ rfl⟩
  · rw [encodeOfDecodeIsTheWord w, and_opcodeMask]

/-- Settles O20: each Word by evaluation of the decoder. -/
theorem writtenOutWordsDecodeAsTheyRead : Obligations.WrittenOutWordsDecodeAsTheyRead :=
  ⟨rfl, rfl, rfl, rfl, rfl, rfl⟩

/-- A consumer reads back the tag whose code is driven (R39, D3). -/
theorem tagOfFmt_encodeTag (t : FormatTag) : tagOfFmt (encodeTag t) = some t := by
  cases t with
  | R => rfl
  | I => rfl
  | J => rfl

/-- Settles O14: every driven code reads back as a tag, and 11 reads back as none. -/
theorem reservedFmtIsNeverDriven : Obligations.ReservedFmtIsNeverDriven := by
  refine ⟨fun o => ⟨fun h => ?_, tagOfFmt_encodeTag o.tag⟩, rfl⟩
  have hread : tagOfFmt o.fmt = some o.tag := tagOfFmt_encodeTag o.tag
  rw [h] at hread
  cases hread

end Sys2Proof.Proofs

/-! ## What each instruction drives (spec/10_state.md R16, R18; spec/41_extract.md R57–R62, R66) -/

namespace Sys2Proof.Proofs

open Sys2Proof Sys2Proof.Machine

/-- Settles O6: an instruction is what its own Word decodes to, and a Word's evaluation drives its port table. -/
theorem everyInstructionDrivesThePortsOfItsWord : Obligations.EveryInstructionDrivesThePortsOfItsWord := by
  intro i s
  have hports := exec_decode (encode i) s
  rwa [decodeOfEncodeIsTheInstruction i rfl] at hports

/-- Settles O7: the ports that a record drives form that record again. -/
theorem everyInstructionYieldsItsRecord : Obligations.EveryInstructionYieldsItsRecord := by
  intro i s
  exact ⟨_, _, exec_eq_driveOutputs i s, rfl, outputsOfRecord_record i.record⟩

/-- Settles O8: an evaluation drives the output ports, which leaves every other field of the state. -/
theorem evaluationChangesOnlyTheOutputPorts : Obligations.EvaluationChangesOnlyTheOutputPorts := by
  intro i s t h
  rw [exec_eq_driveOutputs, Host.Outcome.next.injEq] at h
  subst h
  exact ⟨State.driveOutputs_word _ s, State.driveOutputs_actions _ s, State.driveOutputs_results _ s,
    State.driveOutputs_tables _ s⟩

/-- Settles O9: the port table is evaluated whole, and each of its field ports is that slice by definition. -/
theorem everyFieldPortCarriesItsSlice : Obligations.EveryFieldPortCarriesItsSlice := by
  intro w s
  exact ⟨outputsOf w, exec_decode w s, rfl, rfl, rfl, rfl, rfl, rfl, rfl, rfl, rfl⟩

/-- Settles O22: widening with the sign keeps the two's-complement reading, which is the signed immediate (R60). -/
theorem signExtensionKeepsTheImmediateValue : Obligations.SignExtensionKeepsTheImmediateValue := by
  intro imm
  rw [immediateSigned_eq_toInt]
  exact BitVec.toInt_signExtend_of_le (by decide)

/-- The address as a number: what the 26 low bits of the Word stand for (R36). -/
theorem addrOf_toNat (w : Word) : (addrOf w).toNat = w.toNat % 2 ^ 26 := by
  rw [addrOf, BitVec.extractLsb'_toNat, Nat.shiftRight_zero]

/-- Settles O23: the byte target is the address times 4, and an address is below 2^26. -/
theorem byteTargetIsFourTimesTheAddress : Obligations.ByteTargetIsFourTimesTheAddress := by
  intro w s
  have htarget : (outputsOf w).jtarget.toNat = w.toNat % 2 ^ 26 * 4 := by
    rw [← addrOf_toNat]
    exact jumpTarget_toNat (addrOf w)
  refine ⟨outputsOf w, exec_decode w s, ?_⟩
  omega

end Sys2Proof.Proofs

/-! ## The host's turn, said once (spec/00_scope.md R13; logs 4 and 5) -/

namespace Sys2Proof.Proofs

open Sys2Proof Sys2Proof.Machine

/-- The step of a turn that evaluates a Word is the decoded instruction (R15). -/
theorem step_eq_exec_of_evaluate {s s' : State} {w : Word} (h : hostTurn s = .evaluate w s') :
    step s = exec (decode w) s' := by
  simp only [step, h]

/-- A string that parses is, from there on, a presented Word with `next` to follow (R74). -/
theorem parseThen_of_ok {bits : Str} {w : Word} (hparse : parseBits bits = .ok w) (next : HostAction) (s : State) :
    parseThen bits next s = .evaluate w ((s.pushAction next).driveWord w) := by
  simp only [parseThen, hparse, presentWord]

/-- With no action left the Word on the port is evaluated again (log 4). -/
theorem hostTurn_of_no_actions {s : State} {w : Word} (h : s.actions = []) (hword : s.word = some w) :
    hostTurn s = .evaluate w s := by
  simp only [hostTurn, h, hword]

/-- Settles O1: each of the four turns evaluates `w`, from the state with `w` on the port. -/
theorem stepRunsTheDecodedInstruction : Obligations.StepRunsTheDecodedInstruction := by
  intro s w rest
  refine ⟨fun h => ?_, fun bits h hparse => ?_, fun bits h hparse => ?_, fun h hword => ?_⟩
  · exact step_eq_exec_of_evaluate (hostTurn_of_actions h)
  · exact step_eq_exec_of_evaluate ((hostTurn_of_actions h).trans (parseThen_of_ok hparse _ _))
  · exact step_eq_exec_of_evaluate ((hostTurn_of_actions h).trans (parseThen_of_ok hparse _ _))
  · exact step_eq_exec_of_evaluate (hostTurn_of_no_actions h hword)

/-- Up to 32 bits there is a Word (R38; log 15). -/
theorem wordOfBits_of_le {nbits : Nat} (hbits : nbits ≤ 32) (n : Nat) :
    wordOfBits nbits n = some (BitVec.ofNat 32 (n % 2 ^ nbits)) :=
  if_pos hbits

/-- What `withFetchWord` places: the Word is presented next (log 3). -/
theorem withFetchWord_of_le (s : State) {nbits : Nat} (hbits : nbits ≤ 32) (n : Nat) :
    s.withFetchWord nbits n = s.pushAction (.present (BitVec.ofNat 32 (n % 2 ^ nbits))) := by
  simp only [State.withFetchWord, presentNext, wordOfBits_of_le hbits]

/-- Settles O2: the placed Word is the host's next action, presented from the state as it was. -/
theorem placedWordRunsInTheNextStep : Obligations.PlacedWordRunsInTheNextStep := by
  intro s nbits n hbits
  constructor
  · rw [decodeTableWord, wordOfBits_of_le hbits, Option.map_some]
  · rw [withFetchWord_of_le s hbits]
    exact step_eq_exec_of_evaluate (hostTurn_of_actions (s := s.pushAction _) rfl)

/-- Settles O26: both steps put the port table of the one Word on the ports. -/
theorem outputsDependOnTheWordAlone : Obligations.OutputsDependOnTheWordAlone := by
  intro s t w rest rest' hs ht
  exact ⟨_, _, step_of_present hs, step_of_present ht, rfl, rfl, rfl⟩

/-- Settles O28: the state at reset, and its turn: no action and no Word. -/
theorem resetHasNoOutputAndStops : Obligations.ResetHasNoOutputAndStops :=
  ⟨rfl, rfl, step_of_stuck rfl⟩

/-- Settles O29: no Word, and no output. -/
theorem resetPortsAreConsistent : Obligations.ResetPortsAreConsistent := rfl

/-- A step that answers a state either evaluated a Word, whose port table is then on the ports, or ended the host's own
operation. -/
theorem step_next_cases {s t : State} (h : step s = .next t) :
    (∃ w s', hostTurn s = .evaluate w s' ∧ t = s'.driveOutputs (outputsOf w)) ∨ hostTurn s = .done t := by
  cases hturn : hostTurn s with
  | evaluate w s' =>
    rw [step_of_evaluate hturn, decode_record, outputsOfRecord_decodeRecord, Host.Outcome.next.injEq] at h
    exact .inl ⟨w, s', rfl, h.symm⟩
  | done s' =>
    rw [step_of_done hturn, Host.Outcome.next.injEq] at h
    exact .inr (congrArg Turn.done h)
  | stuck f => simp [step_of_stuck hturn] at h

/-- Settles O30: an evaluation drives the port table of the Word on the port, and any other turn leaves both. -/
theorem everyStepKeepsThePortsConsistent : Obligations.EveryStepKeepsThePortsConsistent := by
  intro s t hcons hstep
  obtain ⟨w, s', hturn, rfl⟩ | hturn := step_next_cases hstep
  · rw [State.portsConsistent, State.driveOutputs_outputs, State.driveOutputs_word, hostTurn_evaluate_word hturn,
      Option.map_some]
  · obtain ⟨hword, houtputs⟩ := hostTurn_done_ports hturn
    rwa [State.portsConsistent, hword, houtputs]

/-- No step takes the Word off the input port (R26). -/
theorem driven_of_step {s t : State} (hdriven : s.driven) (hstep : step s = .next t) : t.driven := by
  obtain ⟨w, s', hturn, rfl⟩ | hturn := step_next_cases hstep
  · rw [State.driven, State.driveOutputs_word, hostTurn_evaluate_word hturn, Option.isSome_some]
  · rwa [State.driven, (hostTurn_done_ports hturn).1]

end Sys2Proof.Proofs

/-! ## What a turn can come to, and where a step stops (spec/10_state.md R26; spec/70_reset_and_hazards.md R108) -/

namespace Sys2Proof.Proofs

open Sys2Proof Sys2Proof.Machine

/-- The host's own operations, which drive no Word and leave the tables (R13). -/
def IsHostOperation (a : HostAction) : Prop :=
  (∃ bits, a = .parseBits bits) ∨ a = .readPorts ∨ a = .readRecord ∨ (∃ q, a = .resolve q) ∨ a = .render

/-- The actions that need an output to read (R26). -/
def ReadsOutputs (a : HostAction) : Prop := a = .readPorts ∨ a = .readRecord ∨ a = .render

/-- A read of the outputs that returns one result, where there are outputs to read. -/
theorem readOutputs_returns {use : Outputs → State} {s : State} (huse : ∀ o, ∃ r, use o = s.returnResult r) :
    (∃ r, readOutputs use s = .done (s.returnResult r)) ∨
    (s.outputs = none ∧ readOutputs use s = .stuck .outputsUndefined) := by
  obtain hstuck | ⟨o, _, hturn⟩ := readOutputs_cases use s
  · exact .inr hstuck
  · obtain ⟨r, hr⟩ := huse o
    exact .inl ⟨r, hr ▸ hturn⟩

/-- Each of the host's own operations returns one result, or has no outputs to read. -/
theorem hostAct_of_isHostOperation {a : HostAction} (ha : IsHostOperation a) (s : State) :
    (∃ r, hostAct a s = .done (s.returnResult r)) ∨
    (ReadsOutputs a ∧ s.outputs = none ∧ hostAct a s = .stuck .outputsUndefined) := by
  obtain ⟨bits, rfl⟩ | rfl | rfl | ⟨q, rfl⟩ | rfl := ha
  · left
    rw [hostAct]
    cases parseBits bits with
    | error m => exact ⟨_, rfl⟩
    | ok w => exact ⟨_, rfl⟩
  · exact (readOutputs_returns fun o => ⟨_, rfl⟩).imp_right (⟨.inl rfl, ·⟩)
  · exact (readOutputs_returns fun o => ⟨_, rfl⟩).imp_right (⟨.inr (.inl rfl), ·⟩)
  · obtain ⟨r, hr⟩ := returnOrFail_eq .name (resolve s.tables q) s
    exact .inl ⟨r, congrArg Turn.done hr⟩
  · exact (readOutputs_returns fun o => returnOrFail_eq .text (render s.tables o.record) s).imp_right
      (⟨.inr (.inr rfl), ·⟩)

/-- A string action has its Word evaluated, with the tables and the results as they were, or ends with its error. -/
theorem parseThen_evaluates_or_returns (bits : Str) (next : HostAction) (s : State) :
    (∃ w s', parseThen bits next s = .evaluate w s' ∧ s'.tables = s.tables ∧ s'.results = s.results) ∨
    ∃ r, parseThen bits next s = .done (s.returnResult r) := by
  obtain ⟨m, _, hturn⟩ | ⟨w, _, hturn⟩ := parseThen_cases bits next s
  · exact .inr ⟨_, hturn⟩
  · exact .inl ⟨w, _, hturn, rfl, rfl⟩

/-- What an action of the host comes to: the tables made available; a Word to evaluate, with the tables and the results
as they were; one result returned; or no outputs to read. -/
theorem hostAct_cases (a : HostAction) (s : State) :
    (∃ tables, a = .provideTables tables ∧ hostAct a s = .done (s.provideTables tables)) ∨
    (∃ w s', hostAct a s = .evaluate w s' ∧ s'.tables = s.tables ∧ s'.results = s.results) ∨
    (∃ r, hostAct a s = .done (s.returnResult r)) ∨
    (ReadsOutputs a ∧ s.outputs = none ∧ hostAct a s = .stuck .outputsUndefined) := by
  cases a with
  | provideTables tables => exact .inl ⟨tables, rfl, rfl⟩
  | present w => exact .inr (.inl ⟨w, _, rfl, rfl, rfl⟩)
  | decodeBits bits => exact .inr ((parseThen_evaluates_or_returns bits .readRecord s).imp_right .inl)
  | display bits => exact .inr ((parseThen_evaluates_or_returns bits .render s).imp_right .inl)
  | parseBits bits => exact .inr (.inr (hostAct_of_isHostOperation (.inl ⟨bits, rfl⟩) s))
  | readPorts => exact .inr (.inr (hostAct_of_isHostOperation (.inr (.inl rfl)) s))
  | readRecord => exact .inr (.inr (hostAct_of_isHostOperation (.inr (.inr (.inl rfl))) s))
  | resolve q => exact .inr (.inr (hostAct_of_isHostOperation (.inr (.inr (.inr (.inl ⟨q, rfl⟩)))) s))
  | render => exact .inr (.inr (hostAct_of_isHostOperation (.inr (.inr (.inr (.inr rfl)))) s))

/-- Settles O53: the one result is returned from the state without the action, which still has its ports and tables. -/
theorem hostOperationsLeaveTheBlockAlone : Obligations.HostOperationsLeaveTheBlockAlone := by
  intro s t a rest hactions hstep ha
  have hturn := hostTurn_of_actions hactions
  obtain ⟨r, hact⟩ | ⟨_, _, hact⟩ := hostAct_of_isHostOperation ha { s with actions := rest }
  · rw [step_of_done (hturn.trans hact), Host.Outcome.next.injEq] at hstep
    subst hstep
    exact ⟨rfl, rfl, rfl, rfl, r, rfl⟩
  · simp [step_of_stuck (hturn.trans hact)] at hstep

/-- Making the tables available is a step of its own (R102; log 18). -/
theorem step_of_provideTables {s : State} {tables : HostTables} {rest : List HostAction}
    (h : s.actions = .provideTables tables :: rest) :
    step s = .next { s with actions := rest, tables := tables } :=
  step_of_done (hostTurn_of_actions h)

/-- With no Word and no action there is nothing to evaluate (R26, log 1). -/
theorem hostTurn_of_undriven {s : State} (h : s.actions = []) (hword : s.word = none) :
    hostTurn s = .stuck .noWordDriven := by
  simp only [hostTurn, h, hword]

/-- A read where there is no output ends in the fault of that name (R26, log 1). -/
theorem hostTurn_of_readsOutputs {s : State} {a : HostAction} {rest : List HostAction} (h : s.actions = a :: rest)
    (ha : ReadsOutputs a) (ho : s.outputs = none) : hostTurn s = .stuck .outputsUndefined := by
  rw [hostTurn_of_actions h]
  obtain rfl | rfl | rfl := ha
  · simp only [hostAct, readOutputs, ho]
  · simp only [hostAct, readOutputs, ho]
  · simp only [hostAct, readOutputs, ho]

/-- What the host's turn comes to: the outcomes of its oldest action, and with none left an evaluation of the Word on
the port, or nothing to evaluate. -/
theorem hostTurn_cases (s : State) :
    (∃ tables rest, s.actions = .provideTables tables :: rest ∧
      hostTurn s = .done { s with actions := rest, tables := tables }) ∨
    (∃ w s', hostTurn s = .evaluate w s' ∧ s'.tables = s.tables ∧ s'.results = s.results) ∨
    (∃ rest r, hostTurn s = .done { s with actions := rest, results := s.results ++ [r] }) ∨
    (s.actions = [] ∧ s.word = none ∧ hostTurn s = .stuck .noWordDriven) ∨
    (∃ a rest, s.actions = a :: rest ∧ ReadsOutputs a ∧ s.outputs = none ∧
      hostTurn s = .stuck .outputsUndefined) := by
  cases hactions : s.actions with
  | nil =>
    cases hword : s.word with
    | none => exact .inr (.inr (.inr (.inl ⟨rfl, rfl, hostTurn_of_undriven hactions hword⟩)))
    | some w => exact .inr (.inl ⟨w, s, hostTurn_of_no_actions hactions hword, rfl, rfl⟩)
  | cons a rest =>
    have hturn := hostTurn_of_actions hactions
    obtain ⟨tables, rfl, hact⟩ | ⟨w, s', hact, hkept⟩ | ⟨r, hact⟩ | ⟨ha, ho, hact⟩ :=
      hostAct_cases a { s with actions := rest }
    · exact .inl ⟨tables, rest, rfl, hturn.trans hact⟩
    · exact .inr (.inl ⟨w, s', hturn.trans hact, hkept⟩)
    · exact .inr (.inr (.inl ⟨rest, r, hturn.trans hact⟩))
    · exact .inr (.inr (.inr (.inr ⟨a, rest, rfl, ha, ho, hturn.trans hact⟩)))

/-- A step makes tables available, or leaves them and returns at most one result. -/
theorem step_provides_or_keeps_tables {s t : State} (hstep : step s = .next t) :
    (∃ tables rest, s.actions = .provideTables tables :: rest ∧ t = { s with actions := rest, tables := tables }) ∨
    (t.tables = s.tables ∧ (t.results = s.results ∨ ∃ r, t.results = s.results ++ [r])) := by
  obtain ⟨tables, rest, hactions, hturn⟩ | ⟨w, s', hturn, htables, hresults⟩ | ⟨rest, r, hturn⟩ | ⟨_, _, hturn⟩ |
    ⟨_, _, _, _, _, hturn⟩ := hostTurn_cases s
  · rw [step_of_done hturn, Host.Outcome.next.injEq] at hstep
    exact .inl ⟨tables, rest, hactions, hstep.symm⟩
  · rw [step_of_evaluate hturn, Host.Outcome.next.injEq] at hstep
    subst hstep
    exact .inr ⟨htables, .inl hresults⟩
  · rw [step_of_done hturn, Host.Outcome.next.injEq] at hstep
    subst hstep
    exact .inr ⟨rfl, .inr ⟨r, rfl⟩⟩
  · cases (step_of_stuck hturn).symm.trans hstep
  · cases (step_of_stuck hturn).symm.trans hstep

/-- Settles O55: the tables change only where they are made available, which returns nothing. -/
theorem onlyProvidingChangesTheTables : Obligations.OnlyProvidingChangesTheTables := by
  intro s t hstep
  have hprovided (tables : HostTables) (rest : List HostAction) (h : s.actions = .provideTables tables :: rest) :
      t = { s with actions := rest, tables := tables } := by
    rw [step_of_provideTables h, Host.Outcome.next.injEq] at hstep
    exact hstep.symm
  obtain ⟨tables, rest, hactions, rfl⟩ | ⟨htables, hresults | ⟨r, hresults⟩⟩ := step_provides_or_keeps_tables hstep
  · exact ⟨fun hother => absurd hactions (hother tables rest), hprovided, [], (List.append_nil _).symm, Nat.zero_le 1⟩
  · exact ⟨fun _ => htables, hprovided, [], by rw [hresults, List.append_nil], Nat.zero_le 1⟩
  · exact ⟨fun _ => htables, hprovided, [r], hresults, Nat.le_refl 1⟩

/-- A step faults exactly where its turn is stuck: no evaluation does (R49). -/
theorem step_eq_fault_iff {s : State} {f : Fault} : step s = .fault f ↔ hostTurn s = .stuck f := by
  constructor
  · intro h
    cases hturn : hostTurn s with
    | evaluate w s' => cases (step_of_evaluate hturn).symm.trans h
    | done s' => cases (step_of_done hturn).symm.trans h
    | stuck g =>
      rw [step_of_stuck hturn, Host.Outcome.fault.injEq] at h
      rw [h]
  · exact step_of_stuck

/-- The fault of an undriven machine, by its cause (R26). -/
theorem hostTurn_eq_noWordDriven_iff (s : State) :
    hostTurn s = .stuck .noWordDriven ↔ s.actions = [] ∧ s.word = none := by
  refine ⟨fun h => ?_, fun ⟨hactions, hword⟩ => hostTurn_of_undriven hactions hword⟩
  obtain ⟨_, _, _, hturn⟩ | ⟨_, _, hturn, _⟩ | ⟨_, _, hturn⟩ | ⟨hactions, hword, _⟩ | ⟨_, _, _, _, _, hturn⟩ :=
    hostTurn_cases s
  · cases hturn.symm.trans h
  · cases hturn.symm.trans h
  · cases hturn.symm.trans h
  · exact ⟨hactions, hword⟩
  · cases hturn.symm.trans h

/-- The fault of a read where there is no output, by its cause (R26). -/
theorem hostTurn_eq_outputsUndefined_iff (s : State) :
    hostTurn s = .stuck .outputsUndefined ↔
      s.outputs = none ∧ ∃ rest a, s.actions = a :: rest ∧ ReadsOutputs a := by
  refine ⟨fun h => ?_, fun ⟨ho, _, _, hactions, ha⟩ => hostTurn_of_readsOutputs hactions ha ho⟩
  obtain ⟨_, _, _, hturn⟩ | ⟨_, _, hturn, _⟩ | ⟨_, _, hturn⟩ | ⟨_, _, hturn⟩ | ⟨a, rest, hactions, ha, ho, _⟩ :=
    hostTurn_cases s
  · cases hturn.symm.trans h
  · cases hturn.symm.trans h
  · cases hturn.symm.trans h
  · cases hturn.symm.trans h
  · exact ⟨ho, rest, a, hactions, ha⟩

/-- Settles O32: a turn that is not stuck answers a state, and each of the two ways to be stuck has its own cause. -/
theorem stepStopsOnlyWhereNoOutputExists : Obligations.StepStopsOnlyWhereNoOutputExists := by
  intro s
  refine ⟨step_eq_fault_iff.trans (hostTurn_eq_noWordDriven_iff s), ?_, ?_⟩
  · rw [step_eq_fault_iff, hostTurn_eq_outputsUndefined_iff]
    simp only [ReadsOutputs, and_or_left, exists_or, exists_eq_right]
  · cases hturn : hostTurn s with
    | evaluate w s' => exact .inr ⟨_, step_of_evaluate hturn⟩
    | done s' => exact .inr ⟨s', step_of_done hturn⟩
    | stuck f => exact .inl ⟨f, step_of_stuck hturn⟩

/-- A Word on the port, and its outputs beside it, leave no way to be stuck (R108). -/
theorem safe_of_portsConsistent_of_driven {s : State} (hcons : s.portsConsistent) (hdriven : s.driven) : Safe s := by
  obtain ⟨w, hword⟩ := Option.isSome_iff_exists.1 hdriven
  have houtputs : s.outputs = some (outputsOf w) := by rw [hcons, hword, Option.map_some]
  obtain ⟨hundriven, hundefined, ⟨f, hfault⟩ | hnext⟩ := stepStopsOnlyWhereNoOutputExists s
  · cases f with
    | noWordDriven => simp [hundriven.1 hfault] at hword
    | outputsUndefined => simp [(hundefined.1 hfault).1] at houtputs
  · exact hnext

/-- Settles O31, by induction on the number of steps: consistent ports and a driven Word are kept by every step. -/
theorem drivenMachineNeverStops : Obligations.DrivenMachineNeverStops := by
  intro k
  induction k with
  | zero => exact fun _ _ _ => trivial
  | succ k ih =>
    intro s hcons hdriven
    obtain ⟨t, hstep⟩ := safe_of_portsConsistent_of_driven hcons hdriven
    exact ⟨t, hstep, ih t (everyStepKeepsThePortsConsistent s t hcons hstep) (driven_of_step hdriven hstep)⟩

end Sys2Proof.Proofs

/-! ## The steps of the host's own operations (spec/42_decode.md; spec/60_exceptions.md R92; log 5) -/

namespace Sys2Proof.Proofs

open Sys2Proof Sys2Proof.Machine

/-- The step of a PARSE_BITS that succeeds: the Word is returned, and not driven (R70). -/
theorem step_of_parseBits {s : State} {bits : Str} {w : Word} {rest : List HostAction}
    (h : s.actions = .parseBits bits :: rest) (hparse : parseBits bits = .ok w) :
    step s = .next { s with actions := rest, results := s.results ++ [.word w] } := by
  have hturn : hostTurn s = .done ({ s with actions := rest }.returnResult (.word w)) := by
    simp only [hostTurn_of_actions h, hostAct, hparse]
  exact step_of_done hturn

/-- Settles O34: the two outcomes of the parse. -/
theorem parseBitsReturnsItsWordOrItsError : Obligations.ParseBitsReturnsItsWordOrItsError := by
  intro s bits rest h
  exact ⟨fun _ hparse => step_of_parseBits h hparse, fun _ hparse => step_of_parse_error (.inl h) hparse⟩

/-- The step of a read of the ports (R18). -/
theorem step_of_readPorts {s : State} {o : Outputs} {rest : List HostAction}
    (h : s.actions = .readPorts :: rest) (ho : s.outputs = some o) :
    step s = .next { s with actions := rest, results := s.results ++ [.ports o] } := by
  have hturn : hostTurn s = .done ({ s with actions := rest }.returnResult (.ports o)) := by
    simp only [hostTurn_of_actions h, hostAct, readOutputs, ho]
  exact step_of_done hturn

/-- Settles O54: the two reads. -/
theorem readsReturnThePortsAndTheRecord : Obligations.ReadsReturnThePortsAndTheRecord := by
  intro s o rest ho
  exact ⟨fun h => step_of_readPorts h ho, fun h => step_of_readRecord h ho⟩

/-- The step of a RENDER returns its text or its error, and changes nothing else (R92). -/
theorem step_of_render {s : State} {o : Outputs} {rest : List HostAction}
    (h : s.actions = .render :: rest) (ho : s.outputs = some o) :
    step s = .next (returnOrFail .text (render s.tables o.record) { s with actions := rest }) := by
  have hturn : hostTurn s = .done (returnOrFail .text (render s.tables o.record) { s with actions := rest }) := by
    simp only [hostTurn_of_actions h, hostAct, readOutputs, ho]
  exact step_of_done hturn

/-- An operation that fails returns its error (R92). -/
theorem returnOrFail_of_error {r : Except RenderError Str} {e : RenderError} (hr : r = .error e)
    (ok : Str → HostResult) (s : State) :
    returnOrFail ok r s = { s with results := s.results ++ [.failed (.render e)] } := by
  rw [hr]
  rfl

/-- An operation that succeeds returns what `ok` makes of its string (R92). -/
theorem returnOrFail_of_ok {r : Except RenderError Str} {text : Str} (hr : r = .ok text)
    (ok : Str → HostResult) (s : State) :
    returnOrFail ok r s = { s with results := s.results ++ [ok text] } := by
  rw [hr]
  rfl

/-- Settles O45: the two outcomes of the render. -/
theorem renderReturnsItsTextOrItsError : Obligations.RenderReturnsItsTextOrItsError := by
  intro s o rest h ho
  rw [step_of_render h ho]
  exact ⟨fun text hr => congrArg _ (returnOrFail_of_ok hr _ _), fun e hr => congrArg _ (returnOrFail_of_error hr _ _)⟩

/-- The first half of the whole data flow: the string's Word is evaluated, and the render of its record is next (R69). -/
theorem step_of_display {s : State} {bits : Str} {w : Word} {rest : List HostAction}
    (h : s.actions = .display bits :: rest) (hparse : parseBits bits = .ok w) :
    step s = .next { s with word := some w, outputs := some (outputsOf w), actions := .render :: rest } := by
  have hturn := (hostTurn_of_actions h).trans (parseThen_of_ok hparse .render _)
  exact (step_eq_exec_of_evaluate hturn).trans (exec_decode w _)

/-- Settles O39: the second step renders the record that the first one put on the ports. -/
theorem displayRunsTheWholePipeline : Obligations.DisplayRunsTheWholePipeline := by
  intro s bits w rest h hparse
  refine ⟨_, step_of_display h hparse, ?_⟩
  rw [step_of_render rfl rfl, record_outputsOf rfl]
  cases render s.tables (extract w (classify w)) with
  | ok text => rfl
  | error e => rfl

/-- An action that returns an error does nothing else (R92, R94). -/
theorem step_of_returnsError {s : State} {a : HostAction} {e : HostError} {rest : List HostAction}
    (h : s.actions = a :: rest) (herr : ReturnsError s a e) :
    step s = .next { s with actions := rest, results := s.results ++ [.failed e] } := by
  cases a with
  | parseBits bits =>
    obtain ⟨m, hparse, rfl⟩ := herr
    exact step_of_parse_error (.inl h) hparse
  | decodeBits bits =>
    obtain ⟨m, hparse, rfl⟩ := herr
    exact step_of_parse_error (.inr (.inl h)) hparse
  | display bits =>
    obtain ⟨m, hparse, rfl⟩ := herr
    exact step_of_parse_error (.inr (.inr h)) hparse
  | resolve q =>
    obtain ⟨re, hr, rfl⟩ := herr
    exact (step_of_resolve h).trans (congrArg _ (returnOrFail_of_error hr _ _))
  | render =>
    obtain ⟨o, re, ho, hr, rfl⟩ := herr
    exact (step_of_render h ho).trans (congrArg _ (returnOrFail_of_error hr _ _))
  | provideTables tables => exact herr.elim
  | present w => exact herr.elim
  | readPorts => exact herr.elim
  | readRecord => exact herr.elim

/-- Settles O38: the step of the next Word keeps the results, and reads nothing of them. -/
theorem errorLeavesNothingBehind : Obligations.ErrorLeavesNothingBehind := by
  intro s a e rest h herr
  refine ⟨step_of_returnsError h herr, fun w rest' hrest => ?_⟩
  exact ⟨_, step_of_present hrest, rfl, step_of_present hrest⟩

/-! ### The FORMAT column (R54, R102) -/

/-- The state with another FORMAT column in its tables. -/
def withFormatColumn (column : Option (List (Opcode × FormatTag))) (s : State) : State :=
  { s with tables := { s.tables with formatColumn := column } }

/-- A turn, with the state it leaves changed by `f`. -/
def mapTurn (f : State → State) : Turn → Turn
  | .evaluate w s => .evaluate w (f s)
  | .done s => .done (f s)
  | .stuck r => .stuck r

section FormatColumn
variable (column : Option (List (Opcode × FormatTag)))

/-- RESOLVE does not read the FORMAT column (R77). -/
theorem resolve_formatColumn (t : HostTables) (q : Query) :
    resolve { t with formatColumn := column } q = resolve t q := by
  cases q with
  | register role code => rfl
  | opcode key => rfl
  | functionCode key => rfl

/-- RENDER does not read the FORMAT column (R54): neither its configuration check nor its lookups do. -/
theorem render_formatColumn (t : HostTables) (r : Record) :
    render { t with formatColumn := column } r = render t r := by
  cases r with
  | r rs rt rd shamt funct => rfl
  | i opcode rs rt imm => rfl
  | j opcode addr => rfl

/-- The end of an operation writes no table. -/
theorem returnOrFail_withFormatColumn (ok : Str → HostResult) (r : Except RenderError Str) (s : State) :
    returnOrFail ok r (withFormatColumn column s) = withFormatColumn column (returnOrFail ok r s) := by
  cases r with
  | ok text => rfl
  | error e => rfl

/-- A string action reads no table before its Word is evaluated (R68). -/
theorem parseThen_withFormatColumn (bits : Str) (next : HostAction) (s : State) :
    parseThen bits next (withFormatColumn column s) = mapTurn (withFormatColumn column) (parseThen bits next s) := by
  unfold parseThen
  cases parseBits bits with
  | error m => rfl
  | ok w => rfl

/-- A read of the outputs commutes with a change of the FORMAT column where the use of what is read does. -/
theorem readOutputs_withFormatColumn (use : Outputs → State) {use' : Outputs → State}
    (huse : ∀ o, use' o = withFormatColumn column (use o)) (s : State) :
    readOutputs use' (withFormatColumn column s) = mapTurn (withFormatColumn column) (readOutputs use s) := by
  have houtputs : (withFormatColumn column s).outputs = s.outputs := rfl
  unfold readOutputs
  rw [houtputs]
  cases s.outputs with
  | none => rfl
  | some o => exact congrArg Turn.done (huse o)

/-- Every action but that of making the tables available commutes with a change of the FORMAT column. -/
theorem hostAct_withFormatColumn {a : HostAction} (ha : ∀ tables, a ≠ .provideTables tables) (s : State) :
    hostAct a (withFormatColumn column s) = mapTurn (withFormatColumn column) (hostAct a s) := by
  cases a with
  | provideTables tables => exact absurd rfl (ha tables)
  | present w => rfl
  | parseBits bits =>
    rw [hostAct, hostAct]
    cases parseBits bits with
    | error m => rfl
    | ok w => rfl
  | decodeBits bits => exact parseThen_withFormatColumn column bits .readRecord s
  | display bits => exact parseThen_withFormatColumn column bits .render s
  | readPorts =>
    exact readOutputs_withFormatColumn column (fun o => s.returnResult (.ports o)) (fun _ => rfl) s
  | readRecord =>
    exact readOutputs_withFormatColumn column (fun o => s.returnResult (.record o.record)) (fun _ => rfl) s
  | resolve q =>
    have hresolve : resolve (withFormatColumn column s).tables q = resolve s.tables q :=
      resolve_formatColumn column s.tables q
    rw [hostAct, hresolve, returnOrFail_withFormatColumn]
    rfl
  | render =>
    have hrender (o : Outputs) : render (withFormatColumn column s).tables o.record = render s.tables o.record :=
      render_formatColumn column s.tables o.record
    refine readOutputs_withFormatColumn column (fun o => returnOrFail .text (render s.tables o.record) s)
      (fun o => ?_) s
    rw [hrender, returnOrFail_withFormatColumn]

/-- So does a turn whose action is not that one. -/
theorem hostTurn_withFormatColumn {s : State} (hactions : ∀ tables rest, s.actions ≠ .provideTables tables :: rest) :
    hostTurn (withFormatColumn column s) = mapTurn (withFormatColumn column) (hostTurn s) := by
  cases h : s.actions with
  | nil =>
    cases hword : s.word with
    | none =>
      rw [hostTurn_of_undriven h hword]
      exact hostTurn_of_undriven (s := withFormatColumn column s) h hword
    | some w =>
      rw [hostTurn_of_no_actions h hword]
      exact hostTurn_of_no_actions (s := withFormatColumn column s) h hword
  | cons a rest =>
    have ha (tables : HostTables) : a ≠ .provideTables tables := fun heq => hactions tables rest (heq ▸ h)
    rw [hostTurn_of_actions h]
    exact (hostTurn_of_actions (s := withFormatColumn column s) h).trans
      (hostAct_withFormatColumn column ha { s with actions := rest })

end FormatColumn

/-- Settles O27: the turn commutes with a change of the column, and so does the evaluation of a Word. -/
theorem formatColumnIsIgnored : Obligations.FormatColumnIsIgnored := by
  intro s column hactions
  have hcommute := hostTurn_withFormatColumn column hactions
  constructor
  · intro t hstep
    obtain ⟨w, s', hturn, rfl⟩ | hturn := step_next_cases hstep
    · rw [hturn, mapTurn] at hcommute
      exact (step_eq_exec_of_evaluate hcommute).trans (exec_decode w _)
    · rw [hturn, mapTurn] at hcommute
      exact step_of_done hcommute
  · intro f hstep
    rw [step_eq_fault_iff.1 hstep, mapTurn] at hcommute
    exact step_of_stuck hcommute

end Sys2Proof.Proofs

/-! ## The spellings of numbers (spec/20_memory.md R30; spec/45_host_render.md R78, R86) -/

namespace Sys2Proof.Proofs

open Sys2Proof Sys2Proof.Machine

/-- A binary spelling has as many characters as the vector has bits (R78). -/
theorem length_bin {n : Nat} (v : BitVec n) : (bin v).length = n := by
  rw [bin, List.length_map, List.length_range]

/-- Each character of a binary spelling is a binary digit (R78). -/
theorem mem_bin {n : Nat} {v : BitVec n} {c : Char} (hc : c ∈ bin v) : c = '0' ∨ c = '1' := by
  obtain ⟨k, _, rfl⟩ := List.mem_map.1 hc
  split_ifs
  · exact .inr rfl
  · exact .inl rfl

/-- The number of a digit string is a fold over its characters. -/
theorem binaryValue_eq_foldl (acc : Nat) (s : Str) :
    binaryValue acc s = s.foldl (fun n c => 2 * n + if c = '1' then 1 else 0) acc := by
  induction s generalizing acc with
  | nil => rfl
  | cons c cs ih => exact ih _

/-- A number without its `j` lowest bits is twice what is left without one more, and that one (R30). -/
theorem div_two_pow_eq (x j : Nat) :
    x / 2 ^ j = 2 * (x / 2 ^ (j + 1)) + if x.testBit j = true then 1 else 0 := by
  simp only [Nat.testBit_eq_decide_div_mod_eq, decide_eq_true_eq, Nat.pow_succ, ← Nat.div_div_eq_div_mul]
  split_ifs <;> omega

/-- The first `k` characters of a spelling stand for the `k` highest bits (R78). -/
theorem foldl_bits_prefix {n : Nat} (v : BitVec n) {k : Nat} (hk : k ≤ n) :
    ((List.range k).map fun i => if v.getLsbD (n - 1 - i) then '1' else '0').foldl
      (fun m c => 2 * m + if c = '1' then 1 else 0) 0 = v.toNat / 2 ^ (n - k) := by
  induction k with
  | zero => exact (Nat.div_eq_of_lt v.isLt).symm
  | succ k ih =>
    have hsub : n - k = n - 1 - k + 1 := by omega
    have hsub' : n - (k + 1) = n - 1 - k := by omega
    have hdigit : ((if v.getLsbD (n - 1 - k) then '1' else '0') = '1') ↔ v.toNat.testBit (n - 1 - k) = true := by
      rw [BitVec.testBit_toNat]
      cases v.getLsbD (n - 1 - k) <;> decide
    rw [List.range_succ, List.map_append, List.foldl_append, ih (by omega), hsub, hsub',
      div_two_pow_eq v.toNat (n - 1 - k)]
    simp only [List.map_cons, List.map_nil, List.foldl_cons, List.foldl_nil, hdigit]

/-- A binary spelling reads back as the number of the vector (R78). -/
theorem foldl_bin {n : Nat} (v : BitVec n) :
    (bin v).foldl (fun m c => 2 * m + if c = '1' then 1 else 0) 0 = v.toNat := by
  have hall := foldl_bits_prefix v (Nat.le_refl n)
  rwa [Nat.sub_self, Nat.pow_zero, Nat.div_one] at hall

/-- Settles O44: the general facts of a binary spelling at the widths 5 and 6, and the two spellings that the spec
shows. -/
theorem binarySpellingsHaveFixedWidth : Obligations.BinarySpellingsHaveFixedWidth :=
  ⟨fun c => ⟨length_bin c, fun _ => mem_bin, foldl_bin c⟩, fun k => ⟨length_bin k, fun _ => mem_bin, foldl_bin k⟩,
    by decide, by decide⟩

/-- Settles O35: the spelling passes both checks of PARSE_BITS, and its number is the Word's. -/
theorem parseBitsReadsBackEveryWord : Obligations.ParseBitsReadsBackEveryWord := by
  intro w
  rw [parseBits_of_firstNonBinary_eq_none (length_bin w) (firstNonBinary_eq_none fun _ => mem_bin),
    binaryValue_eq_foldl, foldl_bin, BitVec.ofNat_toNat, BitVec.setWidth_eq]

/-- The ten decimal digits are the library's. -/
theorem digitChar_eq {d : Nat} (hd : d < 10) : digitChar d = Nat.digitChar d := by
  interval_cases d <;> rfl

/-- The decimal digits are those that the library's conversion gives. -/
theorem decDigits_eq_toDigitsCore (fuel n : Nat) (acc : Str) :
    decDigits fuel n acc = Nat.toDigitsCore 10 fuel n acc := by
  induction fuel generalizing n acc with
  | zero => rfl
  | succ fuel ih => simp only [decDigits, Nat.toDigitsCore, ih, digitChar_eq (Nat.mod_lt n (by decide : 10 > 0))]

/-- The decimal numeral is the library's (R86). -/
theorem dec_eq_toDigits (n : Nat) : dec n = Nat.toDigits 10 n :=
  decDigits_eq_toDigitsCore (n + 1) n []

/-- A decimal digit stands between `0` and `9`. -/
theorem mem_dec {n : Nat} {c : Char} (hc : c ∈ dec n) : '0' ≤ c ∧ c ≤ '9' := by
  rw [dec_eq_toDigits] at hc
  have hdigit : c.isDigit = true := Nat.isDigit_of_mem_toDigits (by decide) (by decide) hc
  rw [Char.isDigit, Bool.and_eq_true, decide_eq_true_eq, decide_eq_true_eq] at hdigit
  exact hdigit

/-- A decimal numeral reads back as its number (R86). -/
theorem foldl_dec (n : Nat) : (dec n).foldl (fun a c => 10 * a + (c.toNat - '0'.toNat)) 0 = n := by
  rw [dec_eq_toDigits, ← Nat.ofDigitChars_eq_foldl, Nat.ofDigitChars_ten_toDigits]

/-- Only the numeral of 0 begins with `0`: a longer numeral begins as that of the tenth part does (R86). -/
theorem eq_zero_of_head?_dec {n : Nat} (h : (dec n).head? = some '0') : n = 0 := by
  induction n using Nat.strong_induction_on with
  | h n ih =>
    by_cases hn : n < 10
    · rw [dec_eq_toDigits, Nat.toDigits_of_lt_base hn, List.head?_cons, Option.some.injEq] at h
      exact Nat.digitChar_eq_zero.1 h
    · have hlong : dec n = dec (n / 10) ++ [Nat.digitChar (n % 10)] := by
        rw [dec_eq_toDigits, dec_eq_toDigits]
        exact Nat.toDigits_of_base_le (by decide) (by omega)
      have hne : dec (n / 10) ≠ [] := by
        rw [dec_eq_toDigits]
        exact Nat.toDigits_ne_nil
      rw [hlong, List.head?_append_of_ne_nil _ hne] at h
      have htenth : n / 10 = 0 := ih (n / 10) (by omega) h
      omega

/-- The numeral of a number from 0 up has no sign (R86). -/
theorem sdec_natCast (n : Nat) : sdec (n : Int) = dec n := by
  rw [sdec, if_neg (Int.not_lt.2 (Int.natCast_nonneg n)), Int.natAbs_natCast]

/-- The numeral of a negative number is `-` and that of its magnitude (R86). -/
theorem sdec_neg_natCast {n : Nat} (hn : n ≠ 0) : sdec (-(n : Int)) = '-' :: dec n := by
  rw [sdec, if_pos (by omega), Int.natAbs_neg, Int.natAbs_natCast]

/-- Settles O51: `dec` is the library's decimal conversion, and `sdec` puts the sign before it. -/
theorem decimalSpellingsReadBack : Obligations.DecimalSpellingsReadBack :=
  ⟨fun n => ⟨fun _ => mem_dec, foldl_dec n, eq_zero_of_head?_dec, rfl⟩, fun n => ⟨sdec_natCast n, sdec_neg_natCast⟩⟩

end Sys2Proof.Proofs

/-! ## The host's tables and errors (spec/45_host_render.md R75–R80, R87; spec/60_exceptions.md R91) -/

namespace Sys2Proof.Proofs

open Sys2Proof Sys2Proof.Machine

section lookup
variable {κ : Type} [DecidableEq κ] {key : κ}

/-- A lookup finds no name exactly where no row has the key. -/
theorem lookupRow_eq_none_iff (rows : List (κ × Str)) :
    lookupRow key rows = none ↔ ∀ name, (key, name) ∉ rows := by
  induction rows with
  | nil => simp [lookupRow]
  | cons row rows ih =>
    obtain ⟨k, n⟩ := row
    by_cases hk : k = key
    · subst hk
      exact iff_of_false (by simp [lookupRow]) fun hne => hne n List.mem_cons_self
    · simp [lookupRow, hk, ih, Ne.symm hk]

/-- Where no two rows share a key, a lookup finds the name of a key exactly where that row is there (D22). -/
theorem lookupRow_eq_some_iff {rows : List (κ × Str)} (hkeys : (rows.map Prod.fst).Nodup) (name : Str) :
    lookupRow key rows = some name ↔ (key, name) ∈ rows := by
  induction rows with
  | nil => simp [lookupRow]
  | cons row rows ih =>
    obtain ⟨k, n⟩ := row
    rw [List.map_cons, List.nodup_cons] at hkeys
    obtain ⟨hfresh, hkeys⟩ := hkeys
    by_cases hk : k = key
    · have hother : (key, name) ∉ rows := fun hmem => hfresh (List.mem_map.2 ⟨_, hmem, hk.symm⟩)
      simp [lookupRow, hk, hother, eq_comm]
    · simp [lookupRow, hk, ih hkeys, Ne.symm hk]

end lookup

/-- Settles O41: the two lookup laws, for a loaded table. -/
theorem lookupFindsExactlyTheMatchingRow : Obligations.LookupFindsExactlyTheMatchingRow := by
  intro κ _ rows key hkeys
  exact ⟨lookupRow_eq_some_iff (of_decide_eq_true hkeys), lookupRow_eq_none_iff rows⟩

/-- A complete table is loaded, and its rows name every key (R76). -/
theorem exists_rows_of_complete {n : Nat} {t : Table (BitVec n)} (h : t.complete = true) :
    ∃ rows, t = .loaded rows ∧ ∀ key, lookupRow key rows ≠ none := by
  cases t with
  | unavailable f => simp [Table.complete] at h
  | loaded rows =>
    refine ⟨rows, rfl, fun key => ?_⟩
    have hkey := List.all_eq_true.1 h key.toNat (List.mem_range.2 key.isLt)
    rw [BitVec.ofNat_toNat, BitVec.setWidth_eq] at hkey
    exact Option.isSome_iff_ne_none.1 hkey

/-- Settles O42: a register query, in any role, is a lookup of its code in the register table. -/
theorem completeRegisterTableNamesEveryCode : Obligations.CompleteRegisterTableNamesEveryCode := by
  intro t hcomplete role code
  obtain ⟨rows, ht, hkeys⟩ := exists_rows_of_complete hcomplete
  exact exists_resolveIn_eq_ok ht (hkeys code)

section render
variable {t : HostTables} {r : Record} {f g : ConfigFault}

/-- Where the template's mnemonic column is available, the fault reported is the register table's (R80). -/
theorem render_of_registerFault (hinstr : instructionFault? t r = none) (hreg : registerFault? t r = some g) :
    render t r = .error (.configuration ⟨.registerTable, g⟩) := by
  simp only [render, configurationFault?, hinstr, hreg]

/-- Of two faults RENDER reports one, whatever the free value picks (log 8). -/
theorem render_of_both_faults (hinstr : instructionFault? t r = some f) (hreg : registerFault? t r = some g) :
    render t r = .error (.configuration ⟨.instructionTable, f⟩) ∨
    render t r = .error (.configuration ⟨.registerTable, g⟩) := by
  simp only [render, configurationFault?, hinstr, hreg]
  cases Config.instructionTableReportedFirst f g with
  | true => exact .inl rfl
  | false => exact .inr rfl

end render

/-- Settles O50: the three combinations of faults, for the two records that need both tables. -/
theorem configurationErrorComesFirst : Obligations.ConfigurationErrorComesFirst := by
  intro t rs rt rd shamt funct opcode imm
  refine ⟨fun f regs hinstr hreg => ?_, fun g names hreg hinstr => ?_, fun f regs hinstr hreg => ?_,
    fun g names hreg hinstr => ?_, fun f g hinstr hreg => ?_, fun f g hinstr hreg => ?_⟩
  · exact render_of_instructionFault (congrArg Table.fault? hinstr) (congrArg Table.fault? hreg)
  · exact render_of_registerFault (congrArg Table.fault? hinstr) (congrArg Table.fault? hreg)
  · exact render_of_instructionFault (congrArg Table.fault? hinstr) (congrArg Table.fault? hreg)
  · exact render_of_registerFault (congrArg Table.fault? hinstr) (congrArg Table.fault? hreg)
  · exact render_of_both_faults (congrArg Table.fault? hinstr) (congrArg Table.fault? hreg)
  · exact render_of_both_faults (congrArg Table.fault? hinstr) (congrArg Table.fault? hreg)

/-- Settles O52: the numbering, cause by cause. -/
theorem errorCodesAreOneToSeven : Obligations.ErrorCodesAreOneToSeven := by
  intro n op fn role code table column
  exact ⟨rfl, rfl, rfl, rfl, rfl, rfl, rfl⟩

end Sys2Proof.Proofs
